-- ==== Sys2Proof/Word.lean ====
section
/-! DEFINITION. The byte of the host port and of the bank line, and the saturation limit that the
manual's sixteen-bit quantities share. -/

namespace Sys2Proof

/-- One byte of a port record or of a line frame ("Port formats", R165). -/
abbrev Byte := BitVec 8

/-- The upper limit at which the part's saturating quantities stay (R12, R45, R48, R73, R120). -/
def limit16 : Nat := 65535

/-- Addition that saturates at 65,535 ("Conventions": a saturating quantity stays at its limit). -/
def satAdd (a b : Nat) : Nat := min limit16 (a + b)

end Sys2Proof
end

