-- ==== Sys2Proof/Config.lean ====
section
/-! DEFINITION. What the manual fixes for every part (limits and durations in 10 ms ticks) and the
free values: constants without a body where the manual states no value. -/

namespace Sys2Proof.Config

/-- Ticks per second (R1). -/
def ticksPerSecond : Nat := 100
/-- Outstanding requests never exceed this (R155). -/
def requestLimit : Nat := 8
/-- Outstanding requests plus queued events never exceed this (R155, R159). -/
def roomLimit : Nat := 16
/-- Bytes of a request record (R153). -/
def requestBytes : Nat := 28
/-- Bytes of an event record (R160). -/
def eventBytes : Nat := 24
/-- Bytes of a progress record (R162). -/
def progressBytes : Nat := 10
/-- Bytes of the status summary (R163). -/
def statusBytes : Nat := 9
/-- The absence count at which mains is absent (R37). -/
def absenceLimit : Nat := 3
/-- The settle count at which return is confirmed (R39, R44). -/
def settleLimit : Nat := 50
/-- Microseconds RESET_N must stay low to reset the part (R52). -/
def resetMicroseconds : Nat := 10
/-- The last charging time at which a conversion starts (R59, R61). -/
def chargingLimit : Nat := 60
/-- The least count that arms the gauge or serves as N0 (R60, R62, R66). -/
def leastFullCount : Nat := 4096
/-- Ticks between refreshes of an armed gauge (R62). -/
def refreshTicks : Nat := 6000
/-- Frames the transmit queue holds at most (R99). -/
def transmitLimit : Nat := 4
/-- The failure count at which the line is in line fault (R95). -/
def failureLimit : Nat := 8
/-- Bit times of recessive line before an attempt may begin (R91). -/
def idleLimit : Nat := 12
/-- Bit times of recessive line that end a frame (R91). -/
def frameEndIdle : Nat := 3
/-- Characters of a frame (R91). -/
def frameChars : Nat := 12
/-- Bit times of a character (R90). -/
def charBits : Nat := 10
/-- Data bits of a character (R90). -/
def dataBits : Nat := 8
/-- Bit times of a tick: 10 ms at 20 kbit/s (R1, R90). -/
def tickBits : Nat := 200
/-- Ticks of a held line: 100 ms (R1, R95). -/
def heldTicks : Nat := 10
/-- Ticks from the last frame sent to the next PRESENCE (R101). -/
def presenceTicks : Nat := 200
/-- Ticks of a join slot per station number (R102). -/
def joinSlotTicks : Nat := 10
/-- Ticks of the join window (R102). -/
def joinWindowTicks : Nat := 300
/-- Last-heard age at which an entry becomes SILENT (R111). -/
def silentTicks : Nat := 600
/-- Silent age at which an entry is removed (R112). -/
def removedTicks : Nat := 12000
/-- Ticks of a claim's hold (R125). -/
def holdTicks : Nat := 30
/-- Ticks of the shed settle (R136). -/
def shedSettleTicks : Nat := 200
/-- Seconds of waiting that raise the urgency by one (R129). -/
def urgencyAgeSeconds : Nat := 30
/-- The largest urgency (R129). -/
def urgencyLimit : Nat := 15
/-- The number of load steps (R119). -/
def stepCount : Nat := 6
/-- Consecutive differing ticks that change the door reading (R148). -/
def doorTicks : Nat := 2

/-- FREE VALUE (R93 sums the demands of the released steps, and R106 and the frame layout give a
delta one byte, 0 to 255): what a RELEASED frame's delta byte carries for a sum above 255 is not
stated. The argument is the sum. -/
opaque wideDelta : Nat → Byte

/-- FREE VALUE (R41 step 6 queues a LEAVING frame at every loss, and R92 forms its arbitration byte
from the configured station number): the station number of a part that has not been configured is
not stated. The argument is the state's counter of free values. -/
opaque unconfiguredStation : Nat → BitVec 4

end Sys2Proof.Config
end

