-- ==== Sys2Proof/Syntax.lean ====
section
/-! DEFINITION. The commands of the part: one constructor per row of spec/opcode_table.json, with
what the outside world supplies to that step as operands. -/

namespace Sys2Proof

/-- The three readings of the VHOLD comparator (R38). -/
inductive VholdReading where
  | low | mid | ok
  deriving DecidableEq, Repr

/-- The steps of the part ("What each step holds": each whole and indivisible). -/
inductive Instr where
  /-- SEND_REQUEST: the bytes the host clocks in from the fall of CS_N to its rise, the command byte first
  (R152, R153). -/
  | sendRequest (mosi : List Byte)
  /-- TAKE_EVENT: the bytes the host clocks in, the command byte first; only the number of the others counts
  (R152, R160). -/
  | takeEvent (mosi : List Byte)
  /-- WRITE_PROGRESS: the bytes the host clocks in, the command byte first (R152, R162). -/
  | writeProgress (mosi : List Byte)
  /-- READ_STATUS: the bytes the host clocks in, the command byte first; only the number of the others
  counts (R152, R163). -/
  | readStatus (mosi : List Byte)
  /-- CONFIGURE taken into service from the head of the request queue (R158). -/
  | configure
  /-- OPEN_CYCLE taken into service from the head of the request queue (R4). -/
  | openCycle
  /-- REQUEST_STEP taken into service from the head of the request queue (R121). -/
  | requestStep
  /-- DROP_STEP taken into service from the head of the request queue (R130). -/
  | dropStep
  /-- HOST_STOP taken into service from the head of the request queue (R5). -/
  | hostStop
  /-- CONTINUE_CYCLE taken into service from the head of the request queue (R6). -/
  | continueCycle
  /-- CLOSE_CYCLE taken into service from the head of the request queue (R7). -/
  | closeCycle
  /-- RESUME_ANSWER taken into service from the head of the request queue (R9). -/
  | resumeAnswer
  /-- WRITE_COMPLETE: the 0.5 ms of a record write have passed (R27). -/
  | writeComplete
  /-- JOURNAL_INTERVAL: the journal interval timer expires (R23). -/
  | journalInterval
  /-- FRESHNESS_EXPIRY: the freshness timer reaches the stale limit (R13). -/
  | freshnessExpiry
  /-- STILL_TIMER_SECOND: the still timer completes 100 ticks (R12). -/
  | stillTimerSecond
  /-- COLD_START: the core supply rises from below its minimum (R51). -/
  | coldStart
  /-- CORE_SUPPLY_FAIL: the core supply falls below its minimum (R51). -/
  | coreSupplyFail
  /-- RESET_N is driven low; the operand is how long it has been low, in microseconds (R52). -/
  | resetN (lowMicroseconds : Nat)
  /-- PIN_START: RESET_N has returned high and any in-flight write has completed (R52). -/
  | pinStart
  /-- RECOVERY_SCAN: the recovery scan ends (R35). -/
  | recoveryScan
  /-- MAINS_ZC_PULSE: a pulse on MAINS_ZC (R37). -/
  | mainsZcPulse
  /-- DROPOUT: the absence count reaches 3 at a tick (R37). -/
  | dropout
  /-- VHOLD_READING: the comparator's new reading (R38). -/
  | vholdReading (reading : VholdReading)
  /-- LOSS_TIMER_SECOND: the loss timer completes 100 ticks (R45). -/
  | lossTimerSecond
  /-- RETURN_CONFIRMATION: the settle count reaches 50 in STARTING (R46). -/
  | returnConfirmation
  /-- WARM_RETURN: the settle count reaches 50 in RETURNING (R47). -/
  | warmReturn
  /-- STARTUP_READING_END: the gauge counter at the end of the start-up conversion; 65,535 is the
  gauge end, SATURATED (R56, R58). -/
  | startupReadingEnd (gaugeCounter : BitVec 16)
  /-- CHARGING_CONVERSION_START: the charging time rises (R59). -/
  | chargingConversionStart
  /-- CHARGING_CONVERSION_END: the gauge counter at the conversion's end (R56, R60). -/
  | chargingConversionEnd (gaugeCounter : BitVec 16)
  /-- REFRESH_START: the refresh timer reaches 6,000 ticks (R62). -/
  | refreshStart
  /-- REFRESH_END: the gauge counter at the refresh conversion's end (R56, R62). -/
  | refreshEnd (gaugeCounter : BitVec 16)
  /-- ATTEMPT_START: the idle count stands at 12 and sending is permitted (R91, R92). -/
  | attemptStart
  /-- ARBITRATION_LOST: the bit of byte 0, counted from its start bit, that was read dominant (R94). -/
  | arbitrationLost (bit : Nat)
  /-- BIT_ERROR: the bit of the frame, counted from the first start bit, that was misread (R95). -/
  | bitError (bit : Nat)
  /-- LINE_HELD: no 12 recessive bit times for 100 ms while a frame waits (R95). -/
  | lineHeld
  /-- FRAME_SENT: an own frame completes with every bit read back as sent (R98). -/
  | frameSent
  /-- FRAME_RECEIVED: the levels of LINE_RX, one sample a bit time, recessive `true`, since the receiver's
  last sample, and how many recessive bit times then follow; the receiver makes characters and frame ends of
  them (R90, R91, R98). -/
  | frameReceived (levels : List Bool) (quiet : Nat)
  /-- PRESENCE_DUE: the presence timer reaches 200 ticks (R101). -/
  | presenceDue
  /-- JOIN_SLOT: the join window timer reaches the station's slot (R102). -/
  | joinSlot
  /-- JOIN_WINDOW_END: the join window timer reaches 300 ticks (R102). -/
  | joinWindowEnd
  /-- PEER_SILENT: the entry of this station number reaches a last-heard age of 600 ticks (R111). -/
  | peerSilent (station : Nat)
  /-- PEER_REMOVED: the entry of this station number reaches a silent age of 12,000 ticks (R112). -/
  | peerRemoved (station : Nat)
  /-- ADMISSION_TEST: the admission test at a tick in WAIT_ROOM (R124). -/
  | admissionTest
  /-- HOLD_EXPIRY: the hold count reaches 30 (R126). -/
  | holdExpiry
  /-- SPACING_ELAPSED: the spacing timer reaches the motor-start spacing (R128). -/
  | spacingElapsed
  /-- RAMP_ELAPSED: the ramp timer reaches the heat ramp interval (R128). -/
  | rampElapsed
  /-- SHED_SETTLE_EXPIRY: the shed settle timer reaches 200 ticks (R136). -/
  | shedSettleExpiry
  /-- WAITING_AGE_SECOND: the pending request for this step completes 100 ticks (R120). -/
  | waitingAgeSecond (step : Nat)
  /-- HEAT_PERIOD_START: the period counter completes the heat period (R145). -/
  | heatPeriodStart
  /-- ON_TIME_END: the period counter reaches the on-time (R143). -/
  | onTimeEnd
  /-- DOOR_OPENING: the debounced door reading changes to open (R149). -/
  | doorOpening
  /-- DOOR_CLOSING: the debounced door reading changes to closed (R150). -/
  | doorClosing
  /-- UNKNOWN_KIND_SERVED: a request of an unknown kind taken into service (R154). -/
  | unknownKindServed
  deriving DecidableEq, Repr

end Sys2Proof
end

