-- ==== Sys2Proof/WellFormed.lean ====
section
/-! DEFINITION. Which operands a command can carry: the ranges of a station number, a load step and a bit
of a frame, the command byte of a transaction, and at least one sample of the line. -/

namespace Sys2Proof

/-- The command byte of a row's transaction: its own code, or a byte that names no transaction, which makes the
transaction void (R152, R165). Another transaction's code belongs to that transaction's row. -/
def commandByte (own : Byte) (mosi : List Byte) : Bool :=
  match mosi with
  | [] => false
  | command :: _ => command == own || !([0x3C, 0x5A, 0x96, 0xC3] : List Byte).contains command

/-- A command whose operands lie in the ranges the manual gives them (R91, R94, R95, R106, R119, R152). -/
def Instr.wellFormed : Instr → Bool
  | .arbitrationLost bit => decide (bit < Config.charBits)
  | .bitError bit => decide (bit < Config.frameChars * Config.charBits)
  | .frameReceived levels quiet => decide (levels ≠ [] ∨ 1 ≤ quiet)
  | .sendRequest mosi => commandByte 0x3C mosi
  | .takeEvent mosi => commandByte 0x5A mosi
  | .writeProgress mosi => commandByte 0x96 mosi
  | .readStatus mosi => commandByte 0xC3 mosi
  | .peerSilent station => decide (station < 16)
  | .peerRemoved station => decide (station < 16)
  | .waitingAgeSecond step => decide (1 ≤ step ∧ step ≤ Config.stepCount)
  | .configure | .openCycle | .requestStep | .dropStep | .hostStop | .continueCycle | .closeCycle
  | .resumeAnswer | .writeComplete | .journalInterval | .freshnessExpiry | .stillTimerSecond
  | .coldStart | .coreSupplyFail | .resetN _ | .pinStart | .recoveryScan | .mainsZcPulse | .dropout
  | .vholdReading _ | .lossTimerSecond | .returnConfirmation | .warmReturn | .startupReadingEnd _
  | .chargingConversionStart | .chargingConversionEnd _ | .refreshStart | .refreshEnd _
  | .attemptStart | .lineHeld | .frameSent | .presenceDue | .joinSlot | .joinWindowEnd
  | .admissionTest | .holdExpiry | .spacingElapsed | .rampElapsed | .shedSettleExpiry
  | .heatPeriodStart | .onTimeEnd | .doorOpening | .doorClosing | .unknownKindServed => true

end Sys2Proof
end

