-- ==== Sys2Proof/Decode.lean ====
section
/-! DEFINITION. The commands that a word spells. No row of spec/opcode_table.json gives bits: the
part has no instruction words, and its commands are transactions, requests, line events and timer
events. The bytes of requests, events, progress records and frames are read and written by
Sys2Proof/Machine/Operands.lean. -/

namespace Sys2Proof

/-- No table row has bits, so no word spells a command (log entry 1). -/
def decodeTableWord (_nbits _w : Nat) : Option Instr := none

end Sys2Proof
end

