-- ==== Sys2Proof/Machine/State.lean ====
section
/-! DEFINITION. Everything the manual says the part holds, block by block, as plain data; the reasons
a step may stop; and the part as it stands after its first cold start. -/

namespace Sys2Proof.Machine

/-! ## Cycle Context and Progress Exchange (R2 to R17) -/

/-- The stage of a cycle, in the order HEAT, COOL, GUARD. -/
inductive Phase where
  | heat | cool | guarding
  deriving DecidableEq, Repr

/-- The five cycle states ("Cycle states"). -/
inductive CycleState where
  | noCycle | running | stopped | interrupted | resuming
  deriving DecidableEq, Repr

/-- The fields of a progress record, which are also the context's cycle id and phase fields. -/
structure Progress where
  cycleId : Nat
  phase : Phase
  remaining : Nat
  cool : Nat
  guardLen : Nat
  deriving DecidableEq, Repr

/-- A buffer of the Progress Exchange with its role (R14). Between transactions a HOST_WRITE buffer
and a FREE buffer hold nothing. -/
inductive Buffer where
  | free
  | hostWrite
  | newest (p : Progress)
  | journalHeld (p : Progress)
  deriving DecidableEq, Repr

/-- The three buffers of the Progress Exchange (R14). -/
structure Exchange where
  a : Buffer
  b : Buffer
  c : Buffer
  deriving DecidableEq, Repr

/-! ## Resume Assessor (R71 to R89) -/

/-- The actions that ask the host to run something (R76). -/
inductive RunAction where
  | resumeHeat | resumeCool | resumeGuard | relief
  deriving DecidableEq, Repr

/-- The reasons of a HOLD, in the order of their tests (R77). -/
inductive HoldReason where
  | stopped | stale | door
  deriving DecidableEq, Repr

/-- The action of a plan; a HOLD keeps its held action and its reason (R79). -/
inductive PlanAction where
  | noAction
  | run (action : RunAction)
  | finish
  | hold (held : RunAction) (reason : HoldReason)
  deriving DecidableEq, Repr

/-- The length of a mains absence as the part determined it (R68). -/
inductive OffTime where
  | seconds (t : Nat)
  | over
  | unknown
  deriving DecidableEq, Repr

/-- Where an off-time was measured (R72). -/
inductive OffSource where
  | gauge | timer
  deriving DecidableEq, Repr

/-- Whether a plan is provisional or final (R71). -/
inductive Stage where
  | provisional | finalStage
  deriving DecidableEq, Repr

/-- The four figures of a plan, each absent where R79 says so. -/
structure Figures where
  heat : Option Nat
  cool : Option Nat
  relief : Option Nat
  guardFig : Option Nat
  deriving DecidableEq, Repr

/-- The plan record (R79). -/
structure Plan where
  action : PlanAction
  source : OffSource
  offTime : OffTime
  still : Option Nat
  reheat : Option Nat
  figures : Figures
  aged : Bool
  estimated : Bool
  gaugeFlag : Bool
  base : Option Nat
  stage : Stage
  deriving DecidableEq, Repr

/-- The live cycle record with its two timers (R2, R12, R13). The cycle id and the phase fields are
absent exactly in NO_CYCLE. -/
structure Context where
  cycleState : CycleState
  progress : Option Progress
  still : Nat
  base : Nat
  stopReason : Option Byte
  stale : Bool
  aged : Bool
  doorSeen : Bool
  plan : Option Plan
  /-- The still timer has been started since the last reset or loss declaration (R12). -/
  stillStarted : Bool
  stillTicks : Nat
  freshRunning : Bool
  freshTicks : Nat
  deriving DecidableEq, Repr

/-- The Assessor's own items (R71). -/
structure Assessor where
  estimateMark : Bool
  gaugeOff : Option OffTime
  awaiting : Bool
  stage : Stage
  deriving DecidableEq, Repr

/-! ## Continuity Journal (R18 to R36) -/

/-- The six record kinds (R22). -/
inductive RecordKind where
  | opened | progress | loss | stopped | resumed | closed
  deriving DecidableEq, Repr

/-- Why a cycle was closed (R7, R9, R10). -/
inductive CloseReason where
  | completed | unloaded | cancelled | declined | finished | guardExpired
  deriving DecidableEq, Repr

/-- The reason field of a record, by kind (R20). -/
inductive Reason where
  | zero
  | stop (code : Byte)
  | finalAction (action : RunAction)
  | continued
  | close (why : CloseReason)
  deriving DecidableEq, Repr

/-- A record as it is queued: every field of R19 but the sequence number and the CRC. -/
structure Snapshot where
  kind : RecordKind
  cycleState : CycleState
  progress : Progress
  stale : Bool
  aged : Bool
  estimated : Bool
  still : Nat
  n0 : Nat
  reason : Reason
  base : Nat
  deriving DecidableEq, Repr

/-- A whole record: the writer has added the sequence number and the CRC (R26). -/
structure Record where
  seq : BitVec 32
  body : Snapshot
  crc : BitVec 16
  deriving DecidableEq, Repr

/-- A slot holds a record, or bytes that fail their check (R18, R21). -/
inductive Slot where
  | failing
  | whole (r : Record)
  deriving DecidableEq, Repr

/-- The record in flight and the slot it is bound for (R26). -/
structure InFlight where
  slot : Fin 32
  record : Record
  deriving DecidableEq, Repr

/-- The store, the writer and the journal interval timer (R18, R23, R24). -/
structure Journal where
  slots : Vector Slot 32
  nextSlot : Fin 32
  nextSeq : BitVec 32
  inFlight : Option InFlight
  waiting : Option Snapshot
  intervalRunning : Bool
  intervalTicks : Nat
  deriving DecidableEq, Repr

/-! ## Supply Monitor (R37 to R54) -/

/-- The five supply states. -/
inductive SupplyState where
  | starting | onMains | holding | dormant | returning
  deriving DecidableEq, Repr

/-- What began the current period of operation (R53). -/
inductive ResetCause where
  | cold | pin
  deriving DecidableEq, Repr

/-- The Supply Monitor's items (R54) with the comparator's reading (R38). -/
structure Supply where
  supplyState : SupplyState
  cause : ResetCause
  absence : Nat
  /-- A pulse has arrived since the previous tick (R37). -/
  pulseSeen : Bool
  settle : Nat
  /-- The first tick of the settle, which leaves the count at 0, has passed (R39, R44). -/
  settleOpen : Bool
  lossRunning : Bool
  lossTicks : Nat
  lossReading : Nat
  carried : Nat
  vhold : VholdReading
  deriving DecidableEq, Repr

/-! ## Off-Time Gauge (R55 to R70) -/

/-- The six gauge states. -/
inductive GaugeState where
  | idle | measuring | charging | armed | released | fault
  deriving DecidableEq, Repr

/-- The outcome of the start-up reading (R55). -/
inductive StartupResult where
  | noneYet
  | count (n1 : Nat)
  | saturated
  | abandoned
  deriving DecidableEq, Repr

/-- The log-ratio of the journal's N0 to N1 (R55, R66). -/
inductive LogRatio where
  | noneYet
  | ratio (l : Nat)
  | over
  | unknown
  deriving DecidableEq, Repr

/-- The causes of a gauge fault (R65). -/
inductive GaugeCause where
  | saturated | lowCount | notSettled
  deriving DecidableEq, Repr

/-- The gauge's items (R55). -/
structure Gauge where
  gaugeState : GaugeState
  n0 : Nat
  releasedFromArmed : Bool
  previous : Option Nat
  chargingTime : Nat
  /-- Ticks since the charging time last rose (R59). -/
  chargingTicks : Nat
  refreshTicks : Nat
  startup : StartupResult
  logRatio : LogRatio
  /-- A conversion is in progress (R56, R57). -/
  converting : Bool
  /-- The N0 that the recovery scan handed on (R35). -/
  journalN0 : Nat
  deriving DecidableEq, Repr

/-! ## Bank Line Controller (R90 to R105) -/

/-- The frame kinds. -/
inductive FrameKind where
  | presence | claim | taken | released | withdrawn
  deriving DecidableEq, Repr

/-- The station states a frame announces (R92). -/
inductive StationState where
  | joining | idle | waiting | running | stopped | leaving
  deriving DecidableEq, Repr

/-- A frame's fields as they are carried, less the CRC ("Frame contents"). -/
structure Frame where
  arb : Nat
  kind : FrameKind
  station : StationState
  feeder : Nat
  duct : Nat
  prefixLen : Nat
  step : Nat
  feederDelta : Byte
  ductDelta : Byte
  deriving DecidableEq, Repr

/-- A queued frame: its kind fields, fixed when it is queued (R92); the deltas are the sums R93 gives.
`leaving` marks the frame of the loss sequence (R105). -/
structure QueuedFrame where
  kind : FrameKind
  step : Nat
  feederDelta : Nat
  ductDelta : Nat
  leaving : Bool
  deriving DecidableEq, Repr

/-- The attempt in progress: the head frame, its twelve bytes as filled at the attempt's start, and a
WITHDRAWN held against it (R92, R100). -/
structure Attempt where
  frame : QueuedFrame
  bytes : List Byte
  heldWithdrawn : Option QueuedFrame
  deriving DecidableEq, Repr

/-- The causes of SOLO. -/
inductive SoloCause where
  | lineFault | duplicateStation | noPeers
  deriving DecidableEq, Repr

/-- The line modes; the SOLO cause is none in every mode other than SOLO (R103). -/
inductive LineMode where
  | off | joining | banked | alone
  | solo (cause : SoloCause)
  deriving DecidableEq, Repr

/-- The causes a LINE event carries (R102, R103). -/
inductive LineCause where
  | joinEnd | peerHeard | peersGone | lineFault | faultCleared | duplicateStation
  deriving DecidableEq, Repr

/-- One character as the receiver gathered it: its data byte, and whether its stop bit was sampled
dominant (R90, R91). -/
structure LineChar where
  data : Byte
  framingError : Bool
  deriving DecidableEq, Repr

/-- The receiver (R90, R91, R95). Levels are recessive `true`, dominant `false`. -/
structure Receiver where
  /-- The level of LINE_RX as last sampled. -/
  level : Bool
  /-- Inside a character, its data bits sampled so far, the first first. -/
  character : Option (List Bool)
  /-- The characters gathered since the frame began. -/
  chars : List LineChar
  /-- A thirteenth start edge came before the frame end: the line is ignored till the next one (R91). -/
  long : Bool
  /-- The characters are those of an attempt of this station that ended with every bit read as sent (R98). -/
  own : Bool
  idleCount : Nat
  /-- Ticks for which a frame has waited without the line showing 12 consecutive recessive bit times (R95). -/
  heldTicks : Nat
  deriving DecidableEq, Repr

/-- The Bank Line Controller's items (R90, R91, R95, R99, R101, R102, R104). -/
structure Line where
  mode : LineMode
  duplicateMark : Bool
  queue : List QueuedFrame
  attempt : Option Attempt
  failures : Nat
  presenceRunning : Bool
  presenceTicks : Nat
  joinRunning : Bool
  joinTicks : Nat
  /-- The join slot of this window has been reached (R102). -/
  joinSlotDone : Bool
  receiver : Receiver
  deriving DecidableEq, Repr

/-! ## Peer View (R106 to R118) -/

/-- A peer's pending claim (R106). -/
structure PeerClaim where
  step : Nat
  feederDelta : Nat
  ductDelta : Nat
  arb : Nat
  deriving DecidableEq, Repr

/-- The status of an entry; the silent age is present only while SILENT (R106). -/
inductive PeerStatus where
  | present
  | silent (age : Nat)
  deriving DecidableEq, Repr

/-- An entry of the Peer View (R106). -/
structure PeerEntry where
  number : Nat
  status : PeerStatus
  station : StationState
  feeder : Nat
  duct : Nat
  prefixLen : Nat
  urgency : Nat
  claim : Option PeerClaim
  heardAge : Nat
  deriving DecidableEq, Repr

/-! ## Admission Unit (R119 to R140) -/

/-- A held step: the tag of the request that was granted it and its release mark. The n-th entry of
the held steps is step n, so that they always form a prefix (R119, R120). -/
structure HeldStep where
  tag : Byte
  mark : Bool
  deriving DecidableEq, Repr

/-- A pending step request with its waiting age in seconds and the ticks of the present second (R120). -/
structure StepRequest where
  step : Nat
  tag : Byte
  age : Nat
  ageTicks : Nat
  deriving DecidableEq, Repr

/-- A DROP_STEP whose release waits for the heat period end (R120, R133). -/
structure Waiter where
  step : Nat
  tag : Byte
  deriving DecidableEq, Repr

/-- The announced claim with its frozen urgency; without one the claim state is WAIT_ROOM or NONE as
the pending list says (R120). -/
inductive Claim where
  | unannounced
  | sending (step : Nat) (urgency : Nat)
  | holding (step : Nat) (urgency : Nat) (count : Nat)
  deriving DecidableEq, Repr

/-- The claim states of R120. -/
inductive ClaimState where
  | noClaim | waitRoom | sending | holding
  deriving DecidableEq, Repr

/-- The Admission Unit's items (R120). A timer that is `none` is idle. -/
structure Admission where
  held : List HeldStep
  pending : List StepRequest
  waiters : List Waiter
  claim : Claim
  spacing : Option Nat
  ramp : Option Nat
  shedSettle : Option Nat
  ductEpisode : Bool
  /-- The admission test resumes at the next tick (R127). -/
  testAtTick : Bool
  deriving DecidableEq, Repr

/-! ## Permit Outputs (R141 to R151) -/

/-- The permit levels, the heat period and the door (R141). -/
structure Permits where
  drum : Bool
  air : Bool
  heat : Bool
  duty : Nat
  period : Option Nat
  blank : Bool
  doorOpen : Bool
  doorCount : Nat
  /-- The raw level of the DOOR pin, high when the door is open (R148). -/
  doorRaw : Bool
  /-- The raw DOOR levels of the coming ticks, as the outside supplies them, the next one first; with none
  left the level stays as it stands (log entry 3). -/
  doorInput : List Bool
  deriving DecidableEq, Repr

/-! ## Host Port (R152 to R165) -/

/-- A request record: its kind and tag bytes and the parameter bytes that follow them (R153). -/
structure Request where
  kind : Byte
  tag : Byte
  params : List Byte
  deriving DecidableEq, Repr

/-- The results a completion carries ("Command bytes and codes"). -/
inductive Result where
  | done | granted | clamped | cancelled | doorOpen | supplyLost | badKind | notConfigured
  | alreadyConfigured | badStation | badLimit | cycleOpen | badCycle | wrongState | notAsked
  | badAnswer | badStep | notRunning | duplicate | stepOrder | notHeld
  deriving DecidableEq, Repr

/-- The causes of STEP_LOST (R134). -/
inductive LostCause where
  | door | shed | soloCap | loss
  deriving DecidableEq, Repr

/-- What a PLAN or PLAN_FINAL event carries: the plan and the context's flags as they stand when the
event is posted (R2, R79). -/
structure PlanReport where
  plan : Plan
  stale : Bool
  aged : Bool
  doorSeen : Bool
  cycleId : Nat
  stopReason : Option Byte
  deriving DecidableEq, Repr

/-- The events (R159). -/
inductive Event where
  | completion (tag kind : Byte) (result : Result) (step : Byte) (settings : BitVec 24)
  | plan (report : PlanReport)
  | planFinal (report : PlanReport)
  | stepLost (lowest : Nat) (cause : LostCause) (prefixLen : Nat)
  | mainsLost (cycleState : CycleState)
  | mainsBack (seconds : Nat)
  | progressStale (cycleId : Nat)
  | line (mode : LineMode) (cause : LineCause)
  | overcommit (total limit : Nat)
  | gaugeFault (cause : GaugeCause)
  deriving DecidableEq, Repr

/-- The Host Port's items (R164). -/
structure Port where
  requests : List Request
  inService : Option Request
  events : List Event
  eventsLost : Bool
  progressRejected : Bool
  /-- The bytes SDO carried in the last transaction, the count byte first (R152); empty while SDO is
  high-impedance throughout. -/
  sdo : List Byte
  deriving DecidableEq, Repr

/-- The nineteen settings of CONFIGURE, in the order of the request layout (R157, R158). -/
structure Settings where
  station : Nat
  bankSize : Nat
  drumFeeder : Nat
  airFeeder : Nat
  airDuct : Nat
  heater : Nat
  feederLimit : Nat
  ductLimit : Nat
  halfLife : Nat
  reheatFactor : Nat
  reheatCap : Nat
  creaseTime : Nat
  reliefTime : Nat
  journalInterval : Nat
  staleLimit : Nat
  spacing : Nat
  rampInterval : Nat
  heatPeriod : Nat
  soloCap : Nat
  deriving DecidableEq, Repr

/-! ## The machine -/

/-- Whether the part runs (R30 to R32, R51, R52). -/
inductive Power where
  /-- The core supply is below its minimum. -/
  | unpowered
  /-- RESET_N has been low for 10 µs, and the PIN start has not been made. -/
  | resetHeld
  /-- A start has been made and the recovery scan has not ended. -/
  | scanning
  | running
  deriving DecidableEq, Repr

/-- The whole state of the part. -/
structure State where
  /-- The commands that are waiting, first in, first out. -/
  pending : List Instr
  power : Power
  supply : Supply
  gauge : Gauge
  journal : Journal
  context : Context
  exchange : Exchange
  assessor : Assessor
  line : Line
  view : List PeerEntry
  admission : Admission
  permits : Permits
  port : Port
  /-- The settings in force; none while the part is unconfigured (R158). -/
  settings : Option Settings
  /-- The MODEL's own counter of free values (log entry 4); no rule of the manual names it. -/
  freeIndex : Nat
  deriving DecidableEq, Repr

/-- The machine never stops with a fault: the manual describes none, and every command of the table
has an effect or leaves the state as it is (log entry 2). No meaning raises one. -/
inductive Fault where
  deriving DecidableEq, Repr

/-- The reasons for which a command is refused. -/
inductive Refusal where
  /-- Raised by the dispatch alone, for a command that has no meaning yet; safe. No command of the
  table is in that case. -/
  | notModelled (mnemonic : String)
  deriving DecidableEq, Repr

/-! ## Values after a start -/

/-- NO_CYCLE: every field at its NO_CYCLE value (R2), with both timers stopped and cleared (R3). -/
def Context.initial : Context where
  cycleState := .noCycle
  progress := none
  still := 0
  base := 0
  stopReason := none
  stale := false
  aged := false
  doorSeen := false
  plan := none
  stillStarted := false
  stillTicks := 0
  freshRunning := false
  freshTicks := 0

/-- A is HOST_WRITE, B and C are FREE (R14). -/
def Exchange.initial : Exchange := ⟨.hostWrite, .free, .free⟩

/-- R71, before the recovery scan has handed anything on. -/
def Assessor.initial : Assessor := ⟨false, none, false, .provisional⟩

/-- R36, with a given store. The writer has no place until the scan ends (R32); the model holds zeros
there (log entry 5). -/
def Journal.initial (slots : Vector Slot 32) : Journal where
  slots := slots
  nextSlot := 0
  nextSeq := 0
  inFlight := none
  waiting := none
  intervalRunning := false
  intervalTicks := 0

/-- R54, with the reset cause and the comparator's present reading. -/
def Supply.initial (cause : ResetCause) (vhold : VholdReading) : Supply where
  supplyState := .starting
  cause := cause
  absence := 0
  pulseSeen := false
  settle := 0
  settleOpen := false
  lossRunning := false
  lossTicks := 0
  lossReading := 0
  carried := 0
  vhold := vhold

/-- R55. -/
def Gauge.initial : Gauge where
  gaugeState := .idle
  n0 := 0
  releasedFromArmed := false
  previous := none
  chargingTime := 0
  chargingTicks := 0
  refreshTicks := 0
  startup := .noneYet
  logRatio := .noneYet
  converting := false
  journalN0 := 0

/-- The receiver as it begins to watch after a time idle (R91): outside a character, the idle count 0. The
line is taken to have been recessive before (log entry 23). -/
def Receiver.initial : Receiver where
  level := true
  character := none
  chars := []
  long := false
  own := false
  idleCount := 0
  heldTicks := 0

/-- R105. -/
def Line.initial : Line where
  mode := .off
  duplicateMark := false
  queue := []
  attempt := none
  failures := 0
  presenceRunning := false
  presenceTicks := 0
  joinRunning := false
  joinTicks := 0
  joinSlotDone := false
  receiver := Receiver.initial

/-- R120. -/
def Admission.initial : Admission where
  held := []
  pending := []
  waiters := []
  claim := .unannounced
  spacing := none
  ramp := none
  shedSettle := none
  ductEpisode := false
  testAtTick := false

/-- R141, with the present raw level of the DOOR pin and its coming levels. -/
def Permits.initial (doorRaw : Bool) (doorInput : List Bool) : Permits where
  drum := false
  air := false
  heat := false
  duty := 0
  period := none
  blank := false
  doorOpen := false
  doorCount := 0
  doorRaw := doorRaw
  doorInput := doorInput

/-- R164. -/
def Port.initial : Port := ⟨[], none, [], false, false, []⟩

/-- A start of the part: every block at its reset values, the recovery scan under way. Until the scan ends
the context holds no values by R32; that the model holds the NO_CYCLE values there is the model's choice
(log entry 5). The store, the
levels of the input pins, the command queue and the counter of free values are the caller's. -/
def State.started (cause : ResetCause) (slots : Vector Slot 32) (vhold : VholdReading) (doorRaw : Bool)
    (doorInput : List Bool) (pending : List Instr) (freeIndex : Nat) : State where
  pending := pending
  power := .scanning
  supply := Supply.initial cause vhold
  gauge := Gauge.initial
  journal := Journal.initial slots
  context := Context.initial
  exchange := Exchange.initial
  assessor := Assessor.initial
  line := Line.initial
  view := []
  admission := Admission.initial
  permits := Permits.initial doorRaw doorInput
  port := Port.initial
  settings := none
  freeIndex := freeIndex

/-- The part as delivered, every slot failing its check (R18), right after its first cold start. The
VHOLD reading OK and the closed door are the outside's (log entry 3). -/
def State.reset : State := State.started .cold (Vector.replicate 32 .failing) .ok false [] [] 0

end Sys2Proof.Machine
end

