-- ==== Sys2Proof/Machine/Operands.lean ====
section
/-! DEFINITION. The formats another device sees ("Port formats", R165) and the check they share with
the journal (R21, R97): request, event, progress and status bytes, bank frames and their bits. -/

namespace Sys2Proof.Machine

/-! ## Bytes and numbers -/

/-- The byte at a place of a record; a byte that is not there reads 0. -/
def byteAt (bytes : List Byte) (i : Nat) : Byte := bytes.getD i 0

/-- A one-byte number. -/
def num8 (bytes : List Byte) (i : Nat) : Nat := (byteAt bytes i).toNat

/-- A two-byte number, most significant byte first. -/
def num16 (bytes : List Byte) (i : Nat) : Nat := num8 bytes i * 256 + num8 bytes (i + 1)

/-- One byte of a number. -/
def byte8 (n : Nat) : Byte := BitVec.ofNat 8 n

/-- Two bytes of a number, most significant first. -/
def bytes16 (n : Nat) : List Byte := [byte8 (n / 256), byte8 n]

/-- Four bits above four bits. -/
def nibbles (high low : Nat) : Byte := byte8 (high * 16 + low % 16)

/-- A bit in its place of a flags byte. -/
def flagBit (set : Bool) (place : Nat) : Nat := if set then 2 ^ place else 0

/-- A list cut or filled with zeros to a length. -/
def padTo (n : Nat) (bytes : List Byte) : List Byte := bytes.take n ++ List.replicate (n - bytes.length) 0

/-! ## CRC-16 (R21, R97) -/

/-- One bit shifted into the register of x¹⁶ + x¹² + x⁵ + 1. -/
def crcBit (reg : BitVec 16) (bit : Bool) : BitVec 16 :=
  if reg.msb ^^ bit then (reg <<< 1) ^^^ 0x1021#16 else reg <<< 1

/-- One byte shifted in, most significant bit first. -/
def crcByte (reg : BitVec 16) (b : Byte) : BitVec 16 :=
  [7, 6, 5, 4, 3, 2, 1, 0].foldl (fun r i => crcBit r (b.getLsbD i)) reg

/-- The CRC of a byte string: the register starts at all ones and the result is not inverted. -/
def crc16 (bytes : List Byte) : BitVec 16 := bytes.foldl crcByte 0xFFFF#16

/-! ## Codes of R165 -/

/-- The phase codes. -/
def Phase.code : Phase → Nat
  | .heat => 1 | .cool => 2 | .guarding => 3

/-- The place of a phase in the order HEAT, COOL, GUARD (R15). -/
def Phase.rank (p : Phase) : Nat := p.code

/-- The phase that a byte names (R165). -/
def phaseOf (b : Byte) : Option Phase :=
  if b = 1 then some .heat else if b = 2 then some .cool else if b = 3 then some .guarding else none

/-- The cycle state codes. -/
def CycleState.code : CycleState → Nat
  | .noCycle => 0 | .running => 1 | .stopped => 2 | .interrupted => 3 | .resuming => 4

/-- The supply state codes. -/
def SupplyState.code : SupplyState → Nat
  | .starting => 1 | .onMains => 2 | .holding => 3 | .dormant => 4 | .returning => 5

/-- The gauge state codes. -/
def GaugeState.code : GaugeState → Nat
  | .idle => 1 | .measuring => 2 | .charging => 3 | .armed => 4 | .released => 5 | .fault => 6

/-- The reset cause codes. -/
def ResetCause.code : ResetCause → Nat
  | .cold => 1 | .pin => 2

/-- The line mode codes. -/
def LineMode.code : LineMode → Nat
  | .off => 0 | .joining => 1 | .banked => 2 | .alone => 3 | .solo _ => 4

/-- The SOLO cause codes; 0 in every mode other than SOLO. -/
def LineMode.causeCode : LineMode → Nat
  | .solo .lineFault => 1 | .solo .duplicateStation => 2 | .solo .noPeers => 3
  | .off | .joining | .banked | .alone => 0

/-- The LINE event's cause codes. -/
def LineCause.code : LineCause → Nat
  | .joinEnd => 1 | .peerHeard => 2 | .peersGone => 3 | .lineFault => 4 | .faultCleared => 5
  | .duplicateStation => 6

/-- The STEP_LOST cause codes. -/
def LostCause.code : LostCause → Nat
  | .door => 1 | .shed => 2 | .soloCap => 3 | .loss => 4

/-- The GAUGE_FAULT cause codes. -/
def GaugeCause.code : GaugeCause → Nat
  | .saturated => 1 | .lowCount => 2 | .notSettled => 3

/-- The result codes. -/
def Result.code : Result → Nat
  | .done => 0x00 | .granted => 0x01 | .clamped => 0x02 | .cancelled => 0x03 | .doorOpen => 0x04
  | .supplyLost => 0x05 | .badKind => 0x06 | .notConfigured => 0x07 | .alreadyConfigured => 0x08
  | .badStation => 0x09 | .badLimit => 0x0A | .cycleOpen => 0x0B | .badCycle => 0x0C
  | .wrongState => 0x0D | .notAsked => 0x0E | .badAnswer => 0x0F | .badStep => 0x10
  | .notRunning => 0x11 | .duplicate => 0x12 | .stepOrder => 0x13 | .notHeld => 0x14

/-- The codes of the run actions, as plan actions and as held actions. -/
def RunAction.code : RunAction → Nat
  | .resumeHeat => 1 | .resumeCool => 2 | .resumeGuard => 3 | .relief => 4

/-- The plan action codes. -/
def PlanAction.code : PlanAction → Nat
  | .noAction => 0 | .run a => a.code | .finish => 5 | .hold _ _ => 6

/-- The hold reason codes. -/
def HoldReason.code : HoldReason → Nat
  | .stopped => 1 | .stale => 2 | .door => 3

/-- The four transactions (R152). -/
inductive TransactionKind where
  | sendRequest | takeEvent | writeProgress | readStatus
  deriving DecidableEq, Repr

/-- The command byte codes. -/
def TransactionKind.code : TransactionKind → Byte
  | .sendRequest => 0x3C | .takeEvent => 0x5A | .writeProgress => 0x96 | .readStatus => 0xC3

/-- The request kinds. -/
inductive RequestKind where
  | configure | openCycle | requestStep | dropStep | hostStop | continueCycle | closeCycle | resumeAnswer
  deriving DecidableEq, Repr

/-- The request kind codes. -/
def RequestKind.code : RequestKind → Byte
  | .configure => 0x01 | .openCycle => 0x02 | .requestStep => 0x03 | .dropStep => 0x04
  | .hostStop => 0x05 | .continueCycle => 0x06 | .closeCycle => 0x07 | .resumeAnswer => 0x08

/-- The request kind a byte names (R154: any other is an unknown kind). -/
def requestKindOf (b : Byte) : Option RequestKind :=
  [RequestKind.configure, .openCycle, .requestStep, .dropStep, .hostStop, .continueCycle, .closeCycle,
    .resumeAnswer].find? (fun k => k.code == b)

/-- The frame kind codes. -/
def FrameKind.code : FrameKind → Nat
  | .presence => 1 | .claim => 2 | .taken => 3 | .released => 4 | .withdrawn => 5

/-- The frame kind a byte names. -/
def frameKindOf (b : Byte) : Option FrameKind :=
  [FrameKind.presence, .claim, .taken, .released, .withdrawn].find? (fun k => byte8 k.code == b)

/-- The station state codes. -/
def StationState.code : StationState → Nat
  | .joining => 1 | .idle => 2 | .waiting => 3 | .running => 4 | .stopped => 5 | .leaving => 6

/-- The station state a byte names. -/
def stationStateOf (b : Byte) : Option StationState :=
  [StationState.joining, .idle, .waiting, .running, .stopped, .leaving].find? (fun k => byte8 k.code == b)

/-- The close reason a host's byte names; any other value is taken as CANCELLED (R7, R156). -/
def closeReasonOf (b : Byte) : CloseReason :=
  if b = 1 then .completed else if b = 2 then .unloaded else .cancelled

/-! ## Requests (R153, R157, R165) -/

/-- The request record in the first 28 bytes after the command byte. -/
def requestOf (mosi : List Byte) : Request where
  kind := byteAt mosi 0
  tag := byteAt mosi 1
  params := (mosi.take Config.requestBytes).drop 2

/-- The one parameter of the kinds that have one (byte 2 of the record). -/
def Request.param (r : Request) : Byte := byteAt r.params 0

/-- The nineteen settings as the request carries them; bytes are numbered from the kind byte. -/
def Request.settings (r : Request) : Settings :=
  let p := r.params
  { station := num8 p 0, bankSize := num8 p 1, drumFeeder := num8 p 2, airFeeder := num8 p 3,
    airDuct := num8 p 4, heater := num16 p 5, feederLimit := num16 p 7, ductLimit := num16 p 9,
    halfLife := num16 p 11, reheatFactor := num8 p 13, reheatCap := num16 p 14,
    creaseTime := num16 p 16, reliefTime := num16 p 18, journalInterval := num8 p 20,
    staleLimit := num8 p 21, spacing := num8 p 22, rampInterval := num8 p 23,
    heatPeriod := num8 p 24, soloCap := num8 p 25 }

/-- A number moved to the nearer end of a range (R158). -/
def clamp (low high n : Nat) : Nat := max low (min high n)

/-- The settings with every timing and tuning setting clamped (R158). -/
def Settings.clamped (c : Settings) : Settings :=
  { c with
    halfLife := clamp 30 1800 c.halfLife
    reheatFactor := clamp 0 16 c.reheatFactor
    reheatCap := clamp 0 3600 c.reheatCap
    creaseTime := clamp 60 1800 c.creaseTime
    reliefTime := clamp 30 600 c.reliefTime
    journalInterval := clamp 10 120 c.journalInterval
    staleLimit := clamp 5 120 c.staleLimit
    spacing := clamp 1 10 c.spacing
    rampInterval := clamp 2 30 c.rampInterval
    heatPeriod := clamp 4 60 c.heatPeriod
    soloCap := clamp 0 4 c.soloCap }

/-- The settings bitmap, bit 0 the station number and bit 18 the solo heat cap. -/
def bitmapOf (bits : List Bool) : BitVec 24 :=
  BitVec.ofNat 24 ((bits.zipIdx.map fun (b, i) => flagBit b i).sum)

/-- The settings that were clamped (R158 step 4). -/
def clampedMap (c : Settings) : BitVec 24 :=
  let d := c.clamped
  bitmapOf [false, false, false, false, false, false, false, false,
    d.halfLife != c.halfLife, d.reheatFactor != c.reheatFactor, d.reheatCap != c.reheatCap,
    d.creaseTime != c.creaseTime, d.reliefTime != c.reliefTime, d.journalInterval != c.journalInterval,
    d.staleLimit != c.staleLimit, d.spacing != c.spacing, d.rampInterval != c.rampInterval,
    d.heatPeriod != c.heatPeriod, d.soloCap != c.soloCap]

/-- The settings whose BAD_STATION test failed (R157). -/
def badStationMap (c : Settings) : BitVec 24 :=
  bitmapOf [decide (15 < c.station), decide (c.bankSize = 0 ∨ 16 < c.bankSize)]

/-- The settings named in a failing condition of BAD_LIMIT (R157). -/
def badLimitMap (c : Settings) : BitVec 24 :=
  let noDuct := decide (c.airDuct = 0)
  let bigHeater := decide (1020 < c.heater)
  let badFeeder := decide (c.feederLimit = 0 ∨ 4095 < c.feederLimit)
  let badDuct := decide (c.ductLimit = 0 ∨ 4095 < c.ductLimit)
  let overFeeder := decide (c.feederLimit < c.drumFeeder + c.airFeeder)
  let overDuct := decide (c.ductLimit < c.airDuct)
  bitmapOf [false, false, overFeeder, overFeeder, noDuct || overDuct, bigHeater,
    badFeeder || overFeeder, badDuct || overDuct]

/-! ## Progress records (R162) -/

/-- The progress record in the first ten bytes; none when its phase is invalid: no phase code, or a
tenth byte that is not the phase byte inverted. -/
def progressOf (mosi : List Byte) : Option Progress :=
  if byteAt mosi 9 = ~~~ (byteAt mosi 2) then
    (phaseOf (byteAt mosi 2)).map fun ph =>
      { cycleId := num16 mosi 0, phase := ph, remaining := num16 mosi 3, cool := num16 mosi 5,
        guardLen := num16 mosi 7 }
  else none

/-! ## Events (R160, R165) -/

/-- The kind byte of an event record. -/
def Event.kindByte : Event → Byte
  | .completion .. => 0x01 | .plan _ => 0x02 | .planFinal _ => 0x03 | .stepLost .. => 0x04
  | .mainsLost _ => 0x05 | .mainsBack _ => 0x06 | .progressStale _ => 0x07 | .line .. => 0x08
  | .overcommit .. => 0x09 | .gaugeFault _ => 0x0A

/-- The off-time in seconds, 0 when OVER or UNKNOWN. -/
def OffTime.secondsField : OffTime → Nat
  | .seconds t => t | .over => 0 | .unknown => 0

/-- The off-time form. -/
def OffTime.form : OffTime → Nat
  | .seconds _ => 0 | .over => 1 | .unknown => 2

/-- The held action's code, 0 without one. -/
def PlanAction.heldCode : PlanAction → Nat
  | .hold held _ => held.code | .noAction | .run _ | .finish => 0

/-- The hold reason's code, 0 without one. -/
def PlanAction.reasonCode : PlanAction → Nat
  | .hold _ reason => reason.code | .noAction | .run _ | .finish => 0

/-- Byte 4 of a plan event. -/
def Plan.flagsByte (p : Plan) : Byte :=
  byte8 (flagBit p.aged 0 + flagBit p.estimated 1 + flagBit p.gaugeFlag 2
    + flagBit (p.stage == .finalStage) 3 + flagBit (p.source == .timer) 4 + p.offTime.form * 32)

/-- Bytes 1 to 23 of a plan event. -/
def PlanReport.bytes (r : PlanReport) : List Byte :=
  let p := r.plan
  [byte8 p.action.code, byte8 p.action.heldCode, byte8 p.action.reasonCode, p.flagsByte,
    byte8 (flagBit r.stale 0 + flagBit r.aged 1 + flagBit r.doorSeen 2)]
  ++ bytes16 r.cycleId ++ bytes16 p.offTime.secondsField ++ bytes16 (p.still.getD 0)
  ++ bytes16 (p.reheat.getD 0) ++ bytes16 (p.figures.heat.getD 0) ++ bytes16 (p.figures.cool.getD 0)
  ++ bytes16 (p.figures.relief.getD 0) ++ bytes16 (p.figures.guardFig.getD 0)
  ++ [byte8 (p.base.getD 0), r.stopReason.getD 0]

/-- What follows the kind byte. -/
def Event.body : Event → List Byte
  | .completion tag kind result step settings =>
    [tag, kind, byte8 result.code, step, byte8 (settings.toNat / 65536)] ++ bytes16 (settings.toNat % 65536)
  | .plan r => r.bytes
  | .planFinal r => r.bytes
  | .stepLost lowest cause prefixLen => [byte8 lowest, byte8 cause.code, byte8 prefixLen]
  | .mainsLost c => [byte8 c.code]
  | .mainsBack t => bytes16 t
  | .progressStale id => bytes16 id
  | .line mode cause => [byte8 mode.code, byte8 mode.causeCode, byte8 cause.code]
  | .overcommit total limit => bytes16 total ++ bytes16 limit
  | .gaugeFault cause => [byte8 cause.code]

/-- The 24 bytes of an event record. -/
def Event.bytes (e : Event) : List Byte := padTo Config.eventBytes (e.kindByte :: e.body)

/-- The record latched when the queue is empty: kind NONE, other bytes 0 (R160). -/
def emptyMarker : List Byte := List.replicate Config.eventBytes 0

/-! ## Bank frames (R90, R94, R97) -/

/-- The eight bits of a byte in the reverse order (R94). -/
def reverseByte (b : Byte) : Byte := b.reverse

/-- The arbitration byte of an urgency and a station number. -/
def arbitrationByte (urgency station : Nat) : Nat := (15 - urgency) * 16 + station

/-- Bytes 0 to 9 of a frame as they are carried. -/
def Frame.fieldBytes (f : Frame) : List Byte :=
  [reverseByte (byte8 f.arb), byte8 f.kind.code, byte8 f.station.code] ++ bytes16 f.feeder
  ++ bytes16 f.duct ++ [nibbles f.prefixLen f.step, f.feederDelta, f.ductDelta]

/-- The twelve bytes of a frame. -/
def Frame.bytes (f : Frame) : List Byte :=
  let fields := f.fieldBytes
  fields ++ bytes16 (crc16 fields).toNat

/-- The frame twelve bytes carry, if they pass the checks of R97. -/
def frameOf (bytes : List Byte) : Option Frame :=
  match frameKindOf (byteAt bytes 1), stationStateOf (byteAt bytes 2) with
  | some kind, some station =>
    let f : Frame :=
      { arb := (reverseByte (byteAt bytes 0)).toNat, kind := kind, station := station,
        feeder := num16 bytes 3, duct := num16 bytes 5, prefixLen := num8 bytes 7 / 16,
        step := num8 bytes 7 % 16, feederDelta := byteAt bytes 8, ductDelta := byteAt bytes 9 }
    if bytes.length = Config.frameChars ∧ crc16 (bytes.take 10) = BitVec.ofNat 16 (num16 bytes 10)
        ∧ f.feeder ≤ 4095 ∧ f.duct ≤ 4095 ∧ f.prefixLen ≤ 6 ∧ f.step ≤ 6
    then some f else none
  | _, _ => none

/-- The frame that gathered characters make: exactly twelve, none with a framing error (R91), and
valid (R97). -/
def receivedFrame (chars : List LineChar) : Option Frame :=
  if chars.length = Config.frameChars ∧ chars.all (fun c => !c.framingError) then
    frameOf (chars.map (·.data))
  else none

/-- The station number of a frame. -/
def Frame.number (f : Frame) : Nat := f.arb % 16

/-- The urgency of a frame. -/
def Frame.urgency (f : Frame) : Nat := 15 - f.arb / 16

/-- The levels of one character, dominant `false` and recessive `true`: start bit, data bits least
significant first, stop bit (R90). -/
def charLevels (b : Byte) : List Bool :=
  [false] ++ (List.range 8).map (fun i => b.getLsbD i) ++ [true]

/-- The levels of a frame's characters, sent back to back (R91). -/
def frameLevels (bytes : List Byte) : List Bool := bytes.flatMap charLevels

/-- The levels read back in an attempt that a bit read otherwise than it was sent has ended. -/
def misreadLevels (bytes : List Byte) (bit : Nat) : List Bool :=
  let sent := frameLevels bytes
  sent.take bit ++ [! sent.getD bit true]

/-! ## The receiver (R90, R91) -/

/-- What the receiver hands on at a frame end: the characters gathered, and whether they are those of an
attempt of this station that ended with every bit read back as sent (R98). -/
structure Gathered where
  chars : List LineChar
  own : Bool
  deriving DecidableEq, Repr

/-- The byte of a character's data bits, the first sampled least significant (R90). -/
def byteOfBits (bits : List Bool) : Byte := byte8 (bits.foldr (fun b n => 2 * n + b.toNat) 0)

/-- A sample inside a character: a data bit, or after eight of them the stop bit, which ends the character
and is a framing error when dominant (R90). The idle count is 0 at a dominant sample and at the stop bit,
which does not count itself (R91). -/
def Receiver.bitSample (bits : List Bool) (level : Bool) (r : Receiver) : Receiver :=
  if bits.length < Config.dataBits then
    { r with
      level := level, character := some (bits ++ [level])
      idleCount := if level then min Config.idleLimit (r.idleCount + 1) else 0 }
  else
    { r with
      level := level, character := none, chars := r.chars ++ [⟨byteOfBits bits, !level⟩], idleCount := 0 }

/-- A dominant sample outside a character: at an edge from recessive a character begins, unless twelve
stand gathered, when the frame is long and the line is ignored (R91). After a framing error the line has
to be sampled recessive once before an edge can be seen (R90). -/
def Receiver.edge (r : Receiver) : Receiver :=
  if r.level && !r.long then
    if r.chars.length < Config.frameChars then
      { r with level := false, character := some [], idleCount := 0 }
    else { r with level := false, long := true, idleCount := 0 }
  else { r with level := false, idleCount := 0 }

/-- A recessive sample outside a character. The third after a stop bit ends the frame, and the characters
gathered are handed on unless the frame is long or empty; the twelfth shows that the line is not held. -/
def Receiver.quiet (r : Receiver) : Receiver × Option Gathered :=
  let count := min Config.idleLimit (r.idleCount + 1)
  let r1 := { r with
    level := true, idleCount := count, heldTicks := if count = Config.idleLimit then 0 else r.heldTicks }
  if count = Config.frameEndIdle then
    ({ r1 with chars := [], long := false, own := false },
      if r.long || r.chars.isEmpty then none else some ⟨r.chars, r.own⟩)
  else (r1, none)

/-- One sample of LINE_RX. -/
def Receiver.sample (level : Bool) (r : Receiver) : Receiver × Option Gathered :=
  match r.character with
  | some bits => (r.bitSample bits level, none)
  | none => if level then r.quiet else (r.edge, none)

/-- The receiver after a list of samples, and the frame ends among them in their order. -/
def Receiver.run : List Bool → Receiver → Receiver × List Gathered
  | [], r => (r, [])
  | level :: rest, r =>
    let x := r.sample level
    let y := Receiver.run rest x.1
    (y.1, x.2.toList ++ y.2)

/-! ## Journal records as bytes (R19, R21) -/

/-- The record kind codes inside the store: the model's own (log entry 6). -/
def RecordKind.code : RecordKind → Nat
  | .opened => 1 | .progress => 2 | .loss => 3 | .stopped => 4 | .resumed => 5 | .closed => 6

/-- The close reason codes inside the store; the first three are the port's (log entry 6). -/
def CloseReason.code : CloseReason → Nat
  | .completed => 1 | .unloaded => 2 | .cancelled => 3 | .declined => 4 | .finished => 5 | .guardExpired => 6

/-- The reason field (R20); CONTINUED has the model's own code (log entry 6). -/
def Reason.byte : Reason → Byte
  | .zero => 0
  | .stop code => code
  | .finalAction a => byte8 a.code
  | .continued => 5
  | .close why => byte8 why.code

/-- The 22 bytes a record's CRC covers, in the order of R19, most significant byte first. The places of
STALE, AGED and ESTIMATED in the flags byte, bits 0, 1 and 2, are the model's own (log entry 6). -/
def recordBytes (seq : BitVec 32) (s : Snapshot) : List Byte :=
  bytes16 (seq.toNat / 65536) ++ bytes16 (seq.toNat % 65536)
  ++ [byte8 s.kind.code, byte8 s.cycleState.code] ++ bytes16 s.progress.cycleId
  ++ [byte8 s.progress.phase.code, byte8 (flagBit s.stale 0 + flagBit s.aged 1 + flagBit s.estimated 2)]
  ++ bytes16 s.progress.remaining ++ bytes16 s.progress.cool ++ bytes16 s.progress.guardLen
  ++ bytes16 s.still ++ bytes16 s.n0 ++ [s.reason.byte, byte8 s.base]

/-- The record the writer makes of a snapshot at the start of a write (R21, R26). -/
def makeRecord (seq : BitVec 32) (s : Snapshot) : Record := ⟨seq, s, crc16 (recordBytes seq s)⟩

/-- A slot is valid when the CRC of its fields is its stored CRC; a record's kind is always one of the
six (R21). -/
def Slot.valid? : Slot → Option Record
  | .failing => none
  | .whole r => if crc16 (recordBytes r.seq r.body) = r.crc then some r else none

/-- Sequence number b is later than a: b − a modulo 2³² lies between 1 and 2³¹ (R33). -/
def laterSeq (b a : BitVec 32) : Bool := decide (1 ≤ (b - a).toNat ∧ (b - a).toNat ≤ 2 ^ 31)

/-- The valid records with their slots. -/
def validRecords (slots : Vector Slot 32) : List (Nat × Record) :=
  slots.toList.zipIdx.filterMap fun (slot, i) => slot.valid?.map fun r => (i, r)

/-- The newest record: the valid record that no other valid record is later than (R33). -/
def newestRecord (slots : Vector Slot 32) : Option (Nat × Record) :=
  let found := validRecords slots
  found.find? fun (_, r) => found.all fun (_, q) => ! laterSeq q.seq r.seq

end Sys2Proof.Machine
end

