-- ==== Sys2Proof/Machine/Ops.lean ====
section
/-! DEFINITION. The operations every block shares: posting events and completions, taking a request
into service, queueing journal records, the transmit queue, the permits, and leaving a cycle. -/

namespace Sys2Proof.Machine

/-! ## Outcomes -/

/-- The outcome of a command of a running part. Before the scan has ended, in reset and without core
supply the events of the running part do not arise, and the command changes nothing (R32, R51, R52). -/
def whenRunning (effect : State → State) (s : State) : Host.Outcome State Fault Refusal :=
  .next (if s.power = .running then effect s else s)

/-! ## Event queue and outstanding count (R155, R159) -/

/-- The outstanding count: requests queued, in service, pending as step requests, and release waiters. -/
def outstanding (s : State) : Nat :=
  s.port.requests.length + (if s.port.inService.isSome then 1 else 0)
    + s.admission.pending.length + s.admission.waiters.length

/-- The number of events waiting. -/
def eventsWaiting (s : State) : Nat := s.port.events.length

/-- Room for one unit under the limit of 16 on requests and events together (R155). -/
def hasRoom (s : State) : Bool := decide (outstanding s + eventsWaiting s < Config.roomLimit)

/-- An event added to the tail of the queue. -/
def addEvent (e : Event) (s : State) : State :=
  { s with port := { s.port with events := s.port.events ++ [e] } }

/-- A non-completion event: added when there is room, else dropped with EVENTS_LOST set (R159). -/
def post (e : Event) (s : State) : State :=
  if hasRoom s then addEvent e s else { s with port := { s.port with eventsLost := true } }

/-- The completion of a step request that has left the pending list. -/
def completeStep (result : Result) (p : StepRequest) (s : State) : State :=
  addEvent (.completion p.tag RequestKind.requestStep.code result (byte8 p.step) 0) s

/-- The completion of a release waiter that has left its list. -/
def completeWaiter (w : Waiter) (s : State) : State :=
  addEvent (.completion w.tag RequestKind.dropStep.code .done (byte8 w.step) 0) s

/-- The step byte of a completion: the parameter of REQUEST_STEP and DROP_STEP, 0 for the others. -/
def Request.stepByte (r : Request) : Byte :=
  if r.kind = RequestKind.requestStep.code ∨ r.kind = RequestKind.dropStep.code then r.param else 0

/-- The completion of the request in service, which ends its service (R154, R155). -/
def completeService (result : Result) (settings : BitVec 24) (s : State) : State :=
  match s.port.inService with
  | none => s
  | some r =>
    addEvent (.completion r.tag r.kind result r.stepByte settings)
      { s with port := { s.port with inService := none } }

/-! ## Service (R49, R154) -/

/-- The tests common to every kind, in their order (R154). -/
def commonRefusal (s : State) (r : Request) : Option Result :=
  if s.supply.supplyState = .holding ∨ s.supply.supplyState = .dormant ∨ s.supply.supplyState = .returning then
    some .supplyLost
  else if requestKindOf r.kind = none then some .badKind
  else if r.kind ≠ RequestKind.configure.code ∧ s.settings = none then some .notConfigured
  else none

/-- The head of the request queue taken into service, when no other request is in service and the
head is of the kind the command names; the common tests, then the rule that owns the kind. -/
def takeIntoService (isKind : Byte → Bool) (owner : Request → State → State) (s : State) : State :=
  match s.port.inService, s.port.requests with
  | none, r :: rest =>
    if isKind r.kind then
      let s1 := { s with port := { s.port with requests := rest, inService := some r } }
      match commonRefusal s1 r with
      | some result => completeService result 0 s1
      | none => owner r s1
    else s
  | _, _ => s

/-- A request of a known kind taken into service. -/
def serveKind (k : RequestKind) (owner : Request → State → State) (s : State) : State :=
  takeIntoService (fun b => b == k.code) owner s

/-! ## SPI transactions (R152) -/

/-- What SDO carries over a transaction of some bytes: the number of events waiting with the command byte,
then the bytes given, and 00h beyond them. -/
def shiftOut (mosi out : List Byte) (waiting : Nat) (s : State) : State :=
  { s with port := { s.port with sdo := padTo mosi.length (byte8 waiting :: out) } }

/-- A transaction, with the bytes the host clocks in. It has an effect in a running part when the command
byte is the kind's own; with another command byte, and before the scan has ended, it is void; in reset and
without core supply it is ignored and SDO stays high-impedance. -/
def transaction (kind : TransactionKind) (mosi : List Byte)
    (body : List Byte → State → State × List Byte) (s : State) : State :=
  match s.power with
  | .running =>
    if mosi.head? = some kind.code then
      let x := body mosi.tail s
      shiftOut mosi x.2 (eventsWaiting s) x.1
    else shiftOut mosi [] (eventsWaiting s) s
  | .scanning => shiftOut mosi [] (eventsWaiting s) s
  | .resetHeld => { s with port := { s.port with sdo := [] } }
  | .unpowered => { s with port := { s.port with sdo := [] } }

/-! ## Progress Exchange (R14 to R17) -/

/-- The contents of the NEWEST buffer, if there is one. -/
def Exchange.newest? (e : Exchange) : Option Progress :=
  match e.a, e.b, e.c with
  | .newest p, _, _ => some p
  | _, .newest p, _ => some p
  | _, _, .newest p => some p
  | _, _, _ => none

/-- A function on each of the three buffers. -/
def Exchange.mapBuffers (f : Buffer → Buffer) (e : Exchange) : Exchange := ⟨f e.a, f e.b, f e.c⟩

/-- What a journal take that finds a NEWEST buffer does to a buffer (R17). -/
def Buffer.taken : Buffer → Buffer
  | .newest p => .journalHeld p
  | .journalHeld _ => .free
  | .hostWrite => .hostWrite
  | .free => .free

/-- The journal take: the NEWEST buffer becomes JOURNAL_HELD and the previous JOURNAL_HELD FREE (R17). -/
def Exchange.take (e : Exchange) : Exchange :=
  match e.newest? with
  | some _ => e.mapBuffers Buffer.taken
  | none => e

/-- Steps 1 and 2 of an accepted commit on a buffer (R15). -/
def Buffer.committed (p : Progress) : Buffer → Buffer
  | .hostWrite => .newest p
  | .newest _ => .free
  | .journalHeld q => .journalHeld q
  | .free => .free

/-- The first FREE buffer in the order A, B, C becomes HOST_WRITE (R14). -/
def Exchange.chooseHostWrite (e : Exchange) : Exchange :=
  if e.a = .free then { e with a := .hostWrite }
  else if e.b = .free then { e with b := .hostWrite }
  else if e.c = .free then { e with c := .hostWrite }
  else e

/-- An accepted commit's rotation of the roles (R15). -/
def Exchange.commit (p : Progress) (e : Exchange) : Exchange :=
  (e.mapBuffers (Buffer.committed p)).chooseHostWrite

/-- NEWEST and JOURNAL_HELD made FREE, as at the entry into NO_CYCLE (R2). -/
def Buffer.emptied : Buffer → Buffer
  | .hostWrite => .hostWrite
  | .newest _ => .free
  | .journalHeld _ => .free
  | .free => .free

/-! ## Journal writer (R20, R25, R26) -/

/-- A write starts (R26). -/
def startWrite (body : Snapshot) (s : State) : State :=
  let j := s.journal
  { s with journal := { j with
      inFlight := some ⟨j.nextSlot, makeRecord j.nextSeq body⟩
      nextSeq := j.nextSeq + 1
      nextSlot := j.nextSlot + 1 } }

/-- A record is queued: it starts at once, or becomes or replaces the waiting record (R25). -/
def queueRecord (body : Snapshot) (s : State) : State :=
  if s.journal.inFlight = none ∧ s.supply.supplyState ≠ .dormant then
    startWrite body { s with journal := { s.journal with waiting := none } }
  else { s with journal := { s.journal with waiting := some body } }

/-- A waiting record starts if nothing is in flight (R27, R28). -/
def startWaiting (s : State) : State :=
  match s.journal.inFlight, s.journal.waiting with
  | none, some body => startWrite body { s with journal := { s.journal with waiting := none } }
  | _, _ => s

/-- The gauge N0 a record carries (R20). -/
def recordN0 (g : Gauge) : Nat :=
  match g.gaugeState with
  | .armed => g.n0
  | .released => if g.releasedFromArmed then g.n0 else 0
  | .idle | .measuring | .charging | .fault => 0

/-- The progress fields a record falls back on when the context holds none; no record is queued then. -/
def Progress.zero : Progress := ⟨0, .heat, 0, 0, 0⟩

/-- The snapshot of R17, with the contents of the buffer the take has made JOURNAL_HELD, if it did. -/
def snapshot (kind : RecordKind) (reason : Reason) (taken : Option Progress) (s : State) : Snapshot :=
  let c := s.context
  { kind := kind
    cycleState := c.cycleState
    progress := (taken.or c.progress).getD Progress.zero
    stale := c.stale
    aged := c.aged
    estimated := (c.plan.map (·.estimated)).getD false
    still := c.still
    n0 := recordN0 s.gauge
    reason := reason
    base := c.base }

/-- A record handed to the writer: the journal take, the snapshot, the queueing (R17, R25). -/
def writeRecord (kind : RecordKind) (reason : Reason) (s : State) : State :=
  let taken := s.exchange.newest?
  let s1 := { s with exchange := s.exchange.take }
  queueRecord (snapshot kind reason taken s1) s1

/-! ## Cycle Context (R2, R10, R12, R71, R88) -/

/-- The plan leaves the context: awaiting answer clear, the stage PROVISIONAL again (R88). -/
def discardPlan (s : State) : State :=
  { s with
    context := { s.context with plan := none }
    assessor := { s.assessor with awaiting := false, stage := .provisional } }

/-- The entry into NO_CYCLE, from any state and by any cause (R2): every field at its NO_CYCLE value,
the still timer stopped with its count cleared (R12), the freshness timer stopped (R13), NEWEST and
JOURNAL_HELD made FREE, the estimate mark cleared (R71). -/
def enterNoCycle (s : State) : State :=
  { s with
    context := { Context.initial with
      stillStarted := s.context.stillStarted
      freshTicks := s.context.freshTicks }
    exchange := s.exchange.mapBuffers Buffer.emptied
    assessor := { s.assessor with awaiting := false, stage := .provisional, estimateMark := false } }

/-- The entry into RUNNING: S is 0 and the still timer stopped and cleared (R12), the freshness timer
starts from 0 (R13), the estimate mark is cleared (R71). -/
def enterRunning (s : State) : State :=
  { s with
    context := { s.context with
      cycleState := .running, still := 0, stillTicks := 0, freshRunning := true, freshTicks := 0 }
    assessor := { s.assessor with estimateMark := false } }

/-- The start-up reading has ended or been abandoned (R12, R55). -/
def readingEnded (g : Gauge) : Bool := decide (g.startup ≠ .noneYet)

/-- The running conditions of the still timer (R12). -/
def stillRuns (s : State) : Bool :=
  s.context.stillStarted
    && (s.context.cycleState == .interrupted || s.context.cycleState == .resuming
        || s.context.cycleState == .stopped)
    && (s.supply.supplyState == .onMains
        || (s.supply.supplyState == .starting && readingEnded s.gauge))

/-! ## Steps and their demands (R119) -/

/-- Settings of an unconfigured part: it holds, claims and times nothing by them. -/
def Settings.zero : Settings := ⟨0, 0, 0, 0, 0, 0, 0, 0, 0, 0, 0, 0, 0, 0, 0, 0, 0, 0, 0⟩

/-- The settings in force. -/
def cfg (s : State) : Settings := s.settings.getD Settings.zero

/-- The n-th quarter of a heater of full demand `fh` ("Step order and demand"). -/
def quarter (fh n : Nat) : Nat := n * fh / 4 - (n - 1) * fh / 4

/-- The feeder delta of a step, 1 to 6. -/
def stepFeeder (c : Settings) (step : Nat) : Nat :=
  if step = 1 then c.drumFeeder
  else if step = 2 then c.airFeeder
  else if 3 ≤ step ∧ step ≤ Config.stepCount then quarter c.heater (step - 2)
  else 0

/-- The duct delta of a step. -/
def stepDuct (c : Settings) (step : Nat) : Nat := if step = 2 then c.airDuct else 0

/-- The steps from `low` to `high`. -/
def stepsFrom (low high : Nat) : List Nat := List.range' low (high + 1 - low)

/-- The summed feeder deltas of the steps from `low` to `high`. -/
def sumFeeder (c : Settings) (low high : Nat) : Nat := ((stepsFrom low high).map (stepFeeder c)).sum

/-- The summed duct deltas of the steps from `low` to `high`. -/
def sumDuct (c : Settings) (low high : Nat) : Nat := ((stepsFrom low high).map (stepDuct c)).sum

/-- The held prefix length (R119). -/
def heldLen (s : State) : Nat := s.admission.held.length

/-- The station's own taken feeder (R119). -/
def ownFeeder (s : State) : Nat := sumFeeder (cfg s) 1 (heldLen s)

/-- The station's own taken duct (R119). -/
def ownDuct (s : State) : Nat := sumDuct (cfg s) 1 (heldLen s)

/-- The held heat count (R141). -/
def heatCount (s : State) : Nat := heldLen s - 2

/-! ## Transmit queue (R99, R100) -/

/-- A frame that a full queue may give up: a PRESENCE or a RELEASED. -/
def QueuedFrame.replaceable (f : QueuedFrame) : Bool := f.kind == .presence || f.kind == .released

/-- The last replaceable frame of a list replaced by another (R99). -/
def replaceLast (f : QueuedFrame) : List QueuedFrame → Option (List QueuedFrame)
  | [] => none
  | g :: rest =>
    match replaceLast f rest with
    | some rest' => some (g :: rest')
    | none => if g.replaceable then some (f :: rest) else none

/-- A frame placed in a full queue: the frame under attempt is never replaced, and a head that is
replaced leaves the queue with its failure count (R95, R99). -/
def replaceInFull (f : QueuedFrame) (l : Line) : Line :=
  match l.queue with
  | [] => l
  | head :: rest =>
    match replaceLast f rest with
    | some rest' => { l with queue := head :: rest' }
    | none =>
      if l.attempt = none ∧ head.replaceable then { l with queue := f :: rest, failures := 0 } else l

/-- A frame offered to the transmit queue (R99); a WITHDRAWN goes through `withdrawFrame` first. -/
def offer (f : QueuedFrame) (s : State) : State :=
  if s.line.mode = .off then s
  else if f.kind = .presence then
    if s.line.queue = [] then { s with line := { s.line with queue := [f] } } else s
  else if s.line.queue.length < Config.transmitLimit then
    { s with line := { s.line with queue := s.line.queue ++ [f] } }
  else { s with line := replaceInFull f s.line }

/-- The receiver once any attempt has been cut off: how far the attempt had come is not known to the
model, which takes the receiver outside a character with an idle count of 0 (log entry 23). -/
def Line.receiverAfterCut (l : Line) : Receiver :=
  if l.attempt = none then l.receiver else Receiver.initial

/-- A queued CLAIM, which is not under attempt, removed from the queue (R100). -/
def removeClaim (l : Line) : Line :=
  { l with
    queue := l.queue.filter (fun f => f.kind != .claim)
    failures := if (l.queue.head?.map (·.kind)) = some .claim then 0 else l.failures }

/-- A WITHDRAWN settled against the CLAIM it withdraws (R100): held against a CLAIM under attempt,
cancelled out by a CLAIM still queued, else added to the queue. -/
def withdrawFrame (f : QueuedFrame) (s : State) : State :=
  match s.line.attempt with
  | some a =>
    if a.frame.kind = .claim then
      { s with line := { s.line with attempt := some { a with heldWithdrawn := some f } } }
    else if s.line.queue.any (fun g => g.kind == .claim) then { s with line := removeClaim s.line }
    else offer f s
  | none =>
    if s.line.queue.any (fun g => g.kind == .claim) then { s with line := removeClaim s.line }
    else offer f s

/-- A frame about one step: CLAIM, TAKEN or WITHDRAWN with the step's demands (R93). -/
def stepFrame (c : Settings) (kind : FrameKind) (step : Nat) : QueuedFrame :=
  ⟨kind, step, stepFeeder c step, stepDuct c step, false⟩

/-- The PRESENCE frame; its step and deltas are filled at each attempt's start (R93). -/
def presenceFrame : QueuedFrame := ⟨.presence, 0, 0, 0, false⟩

/-! ## Permits (R142, R143, R146) -/

/-- The on-time of a period in ticks (R143). -/
def onTime (heatPeriod duty : Nat) : Nat := heatPeriod * Config.ticksPerSecond * duty / 4

/-- The level of HEAT_PERMIT that R143 gives. -/
def heatLevel (c : Settings) (p : Permits) : Bool :=
  match p.period with
  | none => false
  | some n => decide (n < onTime c.heatPeriod p.duty) && !p.blank && p.drum && p.air && !p.doorOpen

/-- DRUM_PERMIT and AIR_PERMIT follow the held steps (R142). -/
def followSteps (s : State) : State :=
  { s with permits := { s.permits with drum := decide (1 ≤ heldLen s), air := decide (2 ≤ heldLen s) } }

/-- A forced drop, after the steps have left: `before` is the held heat count before the release. A
release that takes no heat step leaves HEAT_PERMIT alone (R146). -/
def forcedDrop (before : Nat) (s : State) : State :=
  let after := heatCount s
  if after < before then
    { s with permits := { s.permits with
        heat := false
        duty := after
        period := if after = 0 then none else s.permits.period
        blank := decide (after ≠ 0) } }
  else s

/-- The permits when every step goes: all low, no duty, no period (R141, R149, R41 step 1). -/
def permitsDown (s : State) : State :=
  { s with permits := { s.permits with
      drum := false, air := false, heat := false, duty := 0, period := none, blank := false } }

end Sys2Proof.Machine
end

