-- ==== Sys2Proof/Machine/Flags.lean ====
section
/-! DEFINITION. The flags of the part: the context flags of a plan report, the plan flags of R73, the
status summary and the levels of the pins that follow from the state. -/

namespace Sys2Proof.Machine

/-! ## Plan flags (R73, R79) -/

/-- ESTIMATED as the off-time alone sets it: OVER or UNKNOWN. -/
def OffTime.estimated : OffTime → Bool
  | .seconds _ => false | .over => true | .unknown => true

/-- The plan flag GAUGE: the off-time is UNKNOWN. -/
def OffTime.gaugeFlag : OffTime → Bool
  | .seconds _ => false | .over => false | .unknown => true

/-- The new S of an assessment (R73): the off-time, with any carried off-time, added and limited to
65,535, or 65,535 for OVER and UNKNOWN. -/
def OffTime.addTo (off : OffTime) (carried still : Nat) : Nat :=
  match off with
  | .seconds t => satAdd still (t + carried)
  | .over => limit16
  | .unknown => limit16

/-- The report of a plan with the context's flags as they stand; the stop reason goes with a HOLD of
reason STOPPED alone (R2, R79). -/
def reportOf (p : Plan) (c : Context) : PlanReport where
  plan := p
  stale := c.stale
  aged := c.aged
  doorSeen := c.doorSeen
  cycleId := (c.progress.map (·.cycleId)).getD 0
  stopReason := match p.action with
    | .hold _ .stopped => c.stopReason
    | _ => none

/-! ## Status summary (R163) -/

/-- The nine bytes of the status summary. -/
def statusBytes (s : State) : List Byte :=
  [byte8 (s.supply.cause.code + flagBit s.settings.isSome 2 + flagBit s.port.eventsLost 3
      + flagBit s.port.progressRejected 4),
    nibbles s.supply.supplyState.code s.gauge.gaugeState.code,
    nibbles s.context.cycleState.code s.line.mode.code,
    byte8 s.line.mode.causeCode,
    byte8 (eventsWaiting s),
    byte8 (outstanding s),
    nibbles (heldLen s) s.permits.duty]
  ++ bytes16 ((s.context.progress.map (·.cycleId)).getD 0)

/-! ## Pins that follow from the state -/

/-- The part has core supply and is not held in reset. -/
def outOfReset (s : State) : Bool := s.power == .running || s.power == .scanning

/-- ATTN_N is driven low while the event queue holds an event, and released in reset (R161). -/
def attnLow (s : State) : Bool := outOfReset s && !s.port.events.isEmpty

/-- The GAUGE pin is driven in CHARGING and ARMED, but not during a conversion (R55, R56). -/
def gaugeDriven (s : State) : Bool :=
  outOfReset s && (s.gauge.gaugeState == .charging || s.gauge.gaugeState == .armed) && !s.gauge.converting

/-- The line transmitter is off in DORMANT, in reset and without core supply (R43, R52, R105). -/
def transmitterOn (s : State) : Bool := outOfReset s && s.supply.supplyState != .dormant

end Sys2Proof.Machine
end

