-- ==== Sys2Proof/Machine/AdmissionOps.lean ====
section
/-! DEFINITION. The Admission Unit's operations (R119 to R140): chaining, headroom, the admission test,
claims and withdrawals, releases, shedding and the overcommit tests. -/

namespace Sys2Proof.Machine

/-! ## Held and pending steps -/

/-- The step is held and carries no release mark. -/
def heldUnmarked (s : State) (step : Nat) : Bool :=
  decide (1 ≤ step) && ((s.admission.held[step - 1]?).map (fun h => !h.mark)).getD false

/-- The step's prerequisite is held without a release mark; DRUM has none. -/
def prerequisiteHeld (s : State) (step : Nat) : Bool := decide (step = 1) || heldUnmarked s (step - 1)

/-- A request for the step is pending. -/
def isPending (s : State) (step : Nat) : Bool := s.admission.pending.any (fun p => p.step == step)

/-- The step is held, marked or not. -/
def isHeld (s : State) (step : Nat) : Bool := decide (1 ≤ step ∧ step ≤ heldLen s)

/-- A request placed in step order (R120, R121). -/
def insertRequest (p : StepRequest) : List StepRequest → List StepRequest
  | [] => [p]
  | q :: rest => if p.step ≤ q.step then p :: q :: rest else q :: insertRequest p rest

/-- The claim state of R120. -/
def claimState (s : State) : ClaimState :=
  match s.admission.claim with
  | .sending _ _ => .sending
  | .holding _ _ _ => .holding
  | .unannounced => if s.admission.pending = [] then .noClaim else .waitRoom

/-! ## Urgency (R129) -/

/-- The greatest waiting age of a pending request, 0 with none. -/
def oldestAge (s : State) : Nat := (s.admission.pending.map (·.age)).foldl max 0

/-- The station's urgency: frozen while a claim is SENDING or HOLDING. -/
def urgency (s : State) : Nat :=
  match s.admission.claim with
  | .sending _ u => u
  | .holding _ u _ => u
  | .unannounced => min Config.urgencyLimit (s.context.base + oldestAge s / Config.urgencyAgeSeconds)

/-- The station's A for an urgency. -/
def arbOf (s : State) (u : Nat) : Nat := arbitrationByte u (cfg s).station

/-! ## What the Peer View hands on (R115) -/

/-- The peers' feeder sum: PRESENT and SILENT entries alike. -/
def peersFeeder (s : State) : Nat := (s.view.map (·.feeder)).sum

/-- The peers' duct sum. -/
def peersDuct (s : State) : Nat := (s.view.map (·.duct)).sum

/-- The claims of the PRESENT entries. -/
def peerClaims (s : State) : List PeerClaim :=
  s.view.filterMap fun e => if e.status = .present then e.claim else none

/-- An entry's A (R106). -/
def PeerEntry.arb (e : PeerEntry) : Nat := arbitrationByte e.urgency e.number

/-! ## Headroom (R123) -/

/-- The committed feeder for a claim of precedence A. -/
def committedFeeder (s : State) (a : Nat) : Nat :=
  ownFeeder s + peersFeeder s + (((peerClaims s).filter (fun c => c.arb < a)).map (·.feederDelta)).sum

/-- The committed duct for a claim of precedence A. -/
def committedDuct (s : State) (a : Nat) : Nat :=
  ownDuct s + peersDuct s + (((peerClaims s).filter (fun c => c.arb < a)).map (·.ductDelta)).sum

/-- The claim for a step fits at precedence A: the feeder for every step, the duct for AIR alone. DEDUCED: a
feeder overcommitment blocks a claim of demand 0 too, as R123 says of every claim, though R158 says that such a
step always fits (log entry 28). -/
def fits (s : State) (step a : Nat) : Bool :=
  let c := cfg s
  decide (committedFeeder s a ≤ c.feederLimit ∧ stepFeeder c step ≤ c.feederLimit - committedFeeder s a)
    && (decide (step ≠ 2)
      || decide (committedDuct s a ≤ c.ductLimit ∧ stepDuct c step ≤ c.ductLimit - committedDuct s a))

/-! ## The admission test (R124) -/

/-- A timer that is idle counts as elapsed (R120). -/
def elapsed (timer : Option Nat) (limit : Nat) : Bool :=
  match timer with
  | none => true
  | some n => decide (limit ≤ n)

/-- The line mode permits claims. -/
def LineMode.claims : LineMode → Bool
  | .off | .joining => false
  | .banked | .alone => true
  | .solo _ => true

/-- The line mode is SOLO, with any cause. -/
def LineMode.isSolo : LineMode → Bool
  | .solo _ => true
  | .off | .joining | .banked | .alone => false

/-- In SOLO a heat step must not exceed the solo heat cap (R124, R138). -/
def underCap (s : State) (step : Nat) : Bool := !s.line.mode.isSolo || decide (step ≤ 2 + (cfg s).soloCap)

/-- The admission test for a step at precedence A. -/
def admissionPasses (s : State) (step a : Nat) : Bool :=
  s.line.mode.claims && prerequisiteHeld s step && fits s step a
    && (if step ≤ 2 then elapsed s.admission.spacing ((cfg s).spacing * Config.ticksPerSecond)
        else elapsed s.admission.ramp ((cfg s).rampInterval * Config.ticksPerSecond)
          && decide (s.admission.shedSettle = none))
    && underCap s step

/-- A withdrawn CLAIM is still under attempt (R127). -/
def withdrawnUnderAttempt (s : State) : Bool :=
  match s.line.attempt with
  | some a => a.heldWithdrawn.isSome
  | none => false

/-- The admission test in WAIT_ROOM for the lowest pending step: when it passes, the urgency is frozen,
a CLAIM is offered and the claim becomes SENDING (R124). -/
def tryClaim (s : State) : State :=
  match s.admission.claim, s.admission.pending with
  | .unannounced, p :: _ =>
    if withdrawnUnderAttempt s then s
    else
      let u := urgency s
      if admissionPasses s p.step (arbOf s u) then
        offer (stepFrame (cfg s) .claim p.step)
          { s with admission := { s.admission with claim := .sending p.step u } }
      else s
  | _, _ => s

/-! ## Withdrawal and chaining (R122, R127) -/

/-- The step of the announced claim. -/
def announcedStep (s : State) : Option Nat :=
  match s.admission.claim with
  | .sending n _ => some n
  | .holding n _ _ => some n
  | .unannounced => none

/-- The claim withdrawn (R127): in SENDING and HOLDING a WITHDRAWN frame is settled by R100; the frozen
urgency is released; a step still pending goes back to WAIT_ROOM, its test resuming at the next tick. -/
def withdrawClaim (s : State) : State :=
  match announcedStep s with
  | none => s
  | some n =>
    withdrawFrame (stepFrame (cfg s) .withdrawn n)
      { s with admission := { s.admission with
          claim := .unannounced
          testAtTick := s.admission.testAtTick || isPending s n } }

/-- The pending requests that are chained and those that are orphans, lowest first; `kept` holds the
steps kept so far (R122). -/
def splitChain (heldBelow : Nat → Bool) : List StepRequest → List Nat → List StepRequest × List StepRequest
  | [], _ => ([], [])
  | p :: rest, kept =>
    if heldBelow p.step || kept.contains (p.step - 1) then
      let r := splitChain heldBelow rest (p.step :: kept)
      (p :: r.1, r.2)
    else
      let r := splitChain heldBelow rest kept
      (r.1, p :: r.2)

/-- The claim withdrawn when its step is not pending or its prerequisite is not held unmarked (R122). -/
def withdrawUnfounded (s : State) : State :=
  match announcedStep s with
  | none => s
  | some n => if isPending s n && prerequisiteHeld s n then s else withdrawClaim s

/-- The pending list kept chained: every orphan completed CANCELLED, lowest step first, and a claim
without its step or prerequisite withdrawn (R122). -/
def settleChain (s : State) : State :=
  let r := splitChain (prerequisiteHeld s) s.admission.pending []
  withdrawUnfounded
    (r.2.foldl (fun t p => completeStep .cancelled p t)
      { s with admission := { s.admission with pending := r.1 } })

/-- Every pending request completed with one result, lowest step first. -/
def completeAllPending (result : Result) (s : State) : State :=
  s.admission.pending.foldl (fun t p => completeStep result p t)
    { s with admission := { s.admission with pending := [] } }

/-! ## Releases (R132 to R134) -/

/-- The release waiters whose marked steps are all released, completed DONE in the order they were
accepted (R133, R134). -/
def finishWaiters (s : State) : State :=
  let done := s.admission.waiters.filter (fun w => heldLen s < w.step)
  done.foldl (fun t w => completeWaiter w t)
    { s with admission := { s.admission with
        waiters := s.admission.waiters.filter (fun w => !decide (heldLen s < w.step)) } }

/-- The RELEASED frame for the steps from `low` to `high`: its step is the highest released, or 0 when
every held step was released (R93). -/
def releasedFrame (c : Settings) (low high : Nat) : QueuedFrame :=
  ⟨.released, if low = 1 then 0 else high, sumFeeder c low high, sumDuct c low high, false⟩

/-- The held steps from `low` up leave, and the permits follow as a forced drop (R132 steps 1 and 2,
R134, R146). -/
def takeAway (low : Nat) (s : State) : State :=
  followSteps (forcedDrop (heatCount s)
    { s with admission := { s.admission with held := s.admission.held.take (low - 1) } })

/-- The held steps from `low` up released outside a period start: the steps and permits, and one
RELEASED frame if any step was held there. -/
def releaseAtOnce (low : Nat) (s : State) : State :=
  if low ≤ heldLen s then offer (releasedFrame (cfg s) low (heldLen s)) (takeAway low s) else s

/-- STEP_LOST for a forced release of the steps from `low` up (R134). -/
def postStepLost (low : Nat) (cause : LostCause) (s : State) : State := post (.stepLost low cause (heldLen s)) s

/-- HOST_STOP and CLOSE_CYCLE (R5, R7): every held step released, every pending request completed
CANCELLED, the claim withdrawn. -/
def releaseAllForHost (s : State) : State :=
  withdrawClaim (completeAllPending .cancelled (finishWaiters (releaseAtOnce 1 s)))

/-- The lowest held step with a release mark. -/
def lowestMarked (s : State) : Option Nat := (s.admission.held.findIdx? (·.mark)).map (· + 1)

/-- The marked steps released at a period start (R133, R145 step 1): the steps leave, one RELEASED
frame is offered, R122 is applied and the waiters are completed DONE. The duty is set by R145 step 2. -/
def releaseMarked (s : State) : State :=
  match lowestMarked s with
  | none => s
  | some low =>
    finishWaiters (settleChain (offer (releasedFrame (cfg s) low (heldLen s))
      { s with admission := { s.admission with held := s.admission.held.take (low - 1) } }))

/-! ## Grant (R126, R144) -/

/-- A heat grant on the duty (R144), after the step has joined the held steps. -/
def heatGrant (s : State) : State :=
  if s.permits.duty = 0 then
    let p := { s.permits with duty := heatCount s, period := some 0, blank := false }
    { s with permits := { p with heat := heatLevel (cfg s) p } }
  else s

/-- The permits at a grant (R126 step 2). -/
def permitsAtGrant (step : Nat) (s : State) : State := if step ≤ 2 then followSteps s else heatGrant s

/-- The timer a grant restarts (R126 step 4). -/
def restartGrantTimer (step : Nat) (s : State) : State :=
  if step ≤ 2 then { s with admission := { s.admission with spacing := some 0 } }
  else { s with admission := { s.admission with ramp := some 0 } }

/-- The duct overcommit test (R137): the mark and one OVERCOMMIT event per episode. -/
def ductTest (s : State) : State :=
  let total := ownDuct s + peersDuct s
  if (cfg s).ductLimit < total then
    if s.admission.ductEpisode then s
    else post (.overcommit total (cfg s).ductLimit)
      { s with admission := { s.admission with ductEpisode := true } }
  else { s with admission := { s.admission with ductEpisode := false } }

/-- Steps 1 to 6 of a grant (R126), with the duct test made at every grant (R137). -/
def grantStep (p : StepRequest) (s : State) : State :=
  let s1 := { s with admission := { s.admission with held := s.admission.held ++ [⟨p.tag, false⟩] } }
  let s2 := restartGrantTimer p.step (offer (stepFrame (cfg s) .taken p.step) (permitsAtGrant p.step s1))
  let s3 := { s2 with admission := { s2.admission with
    pending := s2.admission.pending.filter (fun q => q.step != p.step), claim := .unannounced } }
  ductTest (completeStep .granted p s3)

/-! ## Shedding and the SOLO cap (R135, R138) -/

/-- The bank is overcommitted on its feeder in this station's view (R135). -/
def feederOvercommitted (s : State) : Bool := decide ((cfg s).feederLimit < ownFeeder s + peersFeeder s)

/-- This station's A is higher than that of every PRESENT peer with a prefix of 3 or more (R135). -/
def highestCandidate (s : State) : Bool :=
  (s.view.filter (fun e => e.status = .present ∧ 3 ≤ e.prefixLen)).all
    fun e => decide (e.arb < arbOf s (urgency s))

/-- A shed step put back in the pending list with its original tag, when there is room for one more
outstanding request (R135 step 2, R155). -/
def putBack (step : Nat) (tag : Byte) (s : State) : State :=
  if outstanding s < Config.requestLimit ∧ hasRoom s then
    { s with admission := { s.admission with
        pending := insertRequest ⟨step, tag, 0, 0⟩ s.admission.pending } }
  else s

/-- The top held heat step shed (R135). -/
def shed (s : State) : State :=
  let top := heldLen s
  match s.admission.held.getLast? with
  | none => s
  | some h =>
    let s1 := releaseAtOnce top s
    let s2 := if h.mark then s1 else putBack top h.tag s1
    let s3 := postStepLost top .shed (finishWaiters (settleChain s2))
    { s3 with admission := { s3.admission with shedSettle := some 0 } }

/-- The feeder overcommit test (R135). -/
def overcommitTest (s : State) : State :=
  if feederOvercommitted s && decide (3 ≤ heldLen s) && highestCandidate s then shed s else s

/-- The heat steps held above the solo heat cap released, with STEP_LOST (R134, R138). -/
def capHeldSteps (s : State) : State :=
  let low := 3 + (cfg s).soloCap
  if low ≤ heldLen s then settleChain (postStepLost low .soloCap (finishWaiters (releaseAtOnce low s))) else s

/-- The entry into SOLO (R138): the held steps above the cap, then a claim above it. -/
def soloEntry (s : State) : State :=
  let s1 := capHeldSteps s
  match announcedStep s1 with
  | some n => if underCap s1 n then s1 else withdrawClaim s1
  | none => s1

/-! ## View changes (R110, R124, R125, R135, R137) -/

/-- The claim at a view change: HOLDING is withdrawn when it no longer fits, SENDING when its admission
test fails, and WAIT_ROOM is tested, unless its test resumes only at the next tick (R124, R125, R127). -/
def retestClaim (s : State) : State :=
  match s.admission.claim with
  | .holding n u _ => if fits s n (arbOf s u) then s else withdrawClaim s
  | .sending n u => if admissionPasses s n (arbOf s u) then s else withdrawClaim s
  | .unannounced => if s.admission.testAtTick then s else tryClaim s

/-- A view change (R110 step 3): the claim, the feeder overcommit test while no settle runs, and the
duct overcommit test. -/
def viewChange (s : State) : State :=
  let s1 := retestClaim s
  let s2 := if s1.admission.shedSettle = none then overcommitTest s1 else s1
  ductTest s2

/-- A peer's TAKEN of DRUM or AIR (R110 step 4, R125, R128): the spacing timer restarts, and an
announced claim for DRUM or AIR is withdrawn. -/
def peerMotorStart (s : State) : State :=
  let s1 := { s with admission := { s.admission with spacing := some 0 } }
  match announcedStep s1 with
  | some n => if n ≤ 2 then withdrawClaim s1 else s1
  | none => s1

end Sys2Proof.Machine
end

