-- ==== Sys2Proof/Machine/AssessorOps.lean ====
section
/-! DEFINITION. The Resume Assessor's operations (R72 to R88): the plan table, the assessment, the
finalisation at the drum grant and the guard expiry. -/

namespace Sys2Proof.Machine

/-- The reheat extension (R74). -/
def reheat (c : Settings) (still : Nat) : Nat := min (still * c.reheatFactor / 16) c.reheatCap

/-- The urgency base of an action (R78). -/
def RunAction.base : RunAction → Nat
  | .relief => 12 | .resumeCool => 10 | .resumeHeat => 8 | .resumeGuard => 6

/-- The row for HEAT (R75). -/
def heatRow (c : Settings) (p : Progress) (still : Nat) : RunAction × Figures :=
  (.resumeHeat, ⟨some (min (p.remaining + reheat c still) limit16), some p.cool, none, some p.guardLen⟩)

/-- The rows for COOL (R75). -/
def coolRow (c : Settings) (p : Progress) (still : Nat) : RunAction × Figures :=
  if still ≤ c.creaseTime then
    if still < p.remaining then (.resumeCool, ⟨none, some (p.remaining - still), none, some p.guardLen⟩)
    else (.resumeGuard, ⟨none, none, none, some p.guardLen⟩)
  else (.relief, ⟨none, none, some c.reliefTime, some p.guardLen⟩)

/-- The rows for GUARD with S below the phase remaining (R75). -/
def guardRow (c : Settings) (p : Progress) (still : Nat) : RunAction × Figures :=
  if still ≤ c.creaseTime then (.resumeGuard, ⟨none, none, none, some (p.remaining - still)⟩)
  else (.relief, ⟨none, none, some c.reliefTime, some (p.remaining - still)⟩)

/-- The plan table (R75); none is the FINISH row. -/
def planRow (c : Settings) (p : Progress) (still : Nat) : Option (RunAction × Figures) :=
  match p.phase with
  | .heat => some (heatRow c p still)
  | .cool => some (coolRow c p still)
  | .guarding => if p.remaining ≤ still then none else some (guardRow c p still)

/-- The table at finalisation (R85): the FINISH row is not used, and a GUARD phase whose S has reached
its remaining time finalises as RESUME_GUARD with the figure 0. -/
def finalRow (c : Settings) (p : Progress) (still : Nat) : RunAction × Figures :=
  match p.phase with
  | .heat => heatRow c p still
  | .cool => coolRow c p still
  | .guarding =>
    if p.remaining ≤ still then (.resumeGuard, ⟨none, none, none, some 0⟩) else guardRow c p still

/-- No figure present. -/
def Figures.absent : Figures := ⟨none, none, none, none⟩

/-- The hold tests in their order (R77). -/
def holdReason (s : State) : Option HoldReason :=
  if s.context.cycleState = .stopped then some .stopped
  else if s.context.stale then some .stale
  else if s.permits.doorOpen then some .door
  else none

/-- The plan record of an assessment of an open cycle (R73 to R79), with S already added. -/
def makePlan (s : State) (source : OffSource) (off : OffTime) (estimated : Bool) (p : Progress) : Plan :=
  let still := s.context.still
  match planRow (cfg s) p still with
  | none =>
    { action := .finish, source := source, offTime := off, still := some still, reheat := none,
      figures := Figures.absent, aged := s.context.aged, estimated := estimated,
      gaugeFlag := off.gaugeFlag, base := none, stage := .provisional }
  | some (action, figures) =>
    { action := match holdReason s with
        | some reason => .hold action reason
        | none => .run action
      source := source, offTime := off, still := some still, reheat := some (reheat (cfg s) still),
      figures := figures, aged := s.context.aged, estimated := estimated,
      gaugeFlag := off.gaugeFlag, base := some action.base, stage := .provisional }

/-- The plan of an assessment in NO_CYCLE (R81), with ESTIMATED formed by R73. -/
def noCyclePlan (source : OffSource) (off : OffTime) (estimated : Bool) : Plan where
  action := .noAction
  source := source
  offTime := off
  still := none
  reheat := none
  figures := Figures.absent
  aged := false
  estimated := estimated
  gaugeFlag := off.gaugeFlag
  base := none
  stage := .provisional

/-- The flag ESTIMATED of an assessment (R73): the off-time is OVER or UNKNOWN, the estimate mark is set, or
S stood at 65,535 before the addition. -/
def estimatedFlag (off : OffTime) (s : State) : Bool :=
  off.estimated || s.assessor.estimateMark || decide (s.context.still = limit16)

/-- A PLAN event with the context's flags as they stand (R2, R80). -/
def postPlan (p : Plan) (s : State) : State := post (.plan (reportOf p s.context)) s

/-- A PLAN_FINAL event with the context's flags as they stand; its AGED flag is the context's (R79). -/
def postPlanFinal (p : Plan) (s : State) : State :=
  post (.planFinal (reportOf { p with aged := s.context.aged } s.context)) s

/-- The plan becomes the context's current plan (R80). -/
def setPlan (p : Plan) (awaiting : Bool) (s : State) : State :=
  { s with
    context := { s.context with plan := some p }
    assessor := { s.assessor with awaiting := awaiting } }

/-- A plan posted and acted on in INTERRUPTED or STOPPED (R80). A FINISH is posted first, is the plan
for the snapshot of CLOSE (FINISHED) alone, and the context enters NO_CYCLE. -/
def actOnPlan (p : Plan) (s : State) : State :=
  let s1 := postPlan p s
  if p.action = .finish then enterNoCycle (writeRecord .closed (.close .finished) (setPlan p false s1))
  else setPlan p (decide (s.context.cycleState = .interrupted)) s1

/-- An assessment (R72): the off-time added to S, the plan made, posted and acted on, all one event. In
RUNNING and RESUMING none is made; neither occasion of R72 can find them (log entry 16). -/
def assess (source : OffSource) (off : OffTime) (carried : Nat) (s : State) : State :=
  let s0 := { s with assessor := { s.assessor with stage := .provisional } }
  match s.context.cycleState with
  | .noCycle => postPlan (noCyclePlan source off (estimatedFlag off s)) s0
  | .interrupted | .stopped =>
    let s1 := { s0 with context := { s0.context with still := off.addTo carried s.context.still } }
    match s.context.progress with
    | some p => actOnPlan (makePlan s1 source off (estimatedFlag off s) p) s1
    | none => s1
  | .running | .resuming => s

/-- The gauge off-time (R68); without a log-ratio, which R69 excludes, UNKNOWN. -/
def gaugeOffTime (l : LogRatio) (halfLife : Nat) : OffTime :=
  match l with
  | .ratio n => .seconds (n * halfLife / 256)
  | .over => .over
  | .unknown => .unknown
  | .noneYet => .unknown

/-- The final figures as context fields (R87). -/
def finalProgress (p : Progress) (action : RunAction) (f : Figures) : Progress :=
  match action with
  | .resumeHeat => ⟨p.cycleId, .heat, f.heat.getD 0, f.cool.getD 0, f.guardFig.getD 0⟩
  | .resumeCool => ⟨p.cycleId, .cool, f.cool.getD 0, 0, f.guardFig.getD 0⟩
  | .resumeGuard => ⟨p.cycleId, .guarding, f.guardFig.getD 0, 0, 0⟩
  | .relief => ⟨p.cycleId, .cool, f.relief.getD 0, 0, f.guardFig.getD 0⟩

/-- The final plan: the provisional plan's off-time and flags with the row worked anew (R85). -/
def finalPlan (c : Settings) (plan : Plan) (p : Progress) (still : Nat) : Plan :=
  let row := finalRow c p still
  { plan with
    action := .run row.1, still := some still, reheat := some (reheat c still), figures := row.2,
    base := some row.1.base, stage := .finalStage }

/-- The still time at a drum grant (R86 step 1): S with the second that this very tick has completed, where
the grant is taken before that second's guard test (R84, R85; log entry 26). -/
def accruedStill (s : State) : Nat :=
  if stillRuns s && decide (Config.ticksPerSecond ≤ s.context.stillTicks) then satAdd s.context.still 1
  else s.context.still

/-- Finalisation at the drum grant (R86, steps 1 to 7). -/
def finalise (s : State) : State :=
  match s.context.plan, s.context.progress with
  | some plan, some p =>
    let c := cfg s
    let still := accruedStill s
    let row := finalRow c p still
    let final := finalPlan c plan p still
    let s1 := { s with
      context := { s.context with
        plan := some final, progress := some (finalProgress p row.1 row.2), base := row.1.base,
        doorSeen := false }
      assessor := { s.assessor with stage := .finalStage, awaiting := false } }
    let s2 := writeRecord .resumed (.finalAction row.1) (enterRunning s1)
    let s3 := postPlanFinal final s2
    { s3 with context := { s3.context with plan := none } }
  | _, _ => s

/-- The guard test passes while S is below the phase remaining; it applies in RESUMING with the phase
GUARD alone (R83). -/
def guardExpired (s : State) : Bool :=
  s.context.cycleState == .resuming
    && (match s.context.progress with
      | some p => p.phase == .guarding && decide (p.remaining ≤ s.context.still)
      | none => false)

/-- The plan of PLAN_FINAL at a guard expiry: FINISH, FINAL, the S that reached R, and the off-time and
flags of the provisional plan (R83 step 4). -/
def expiredPlan (plan : Plan) (still : Nat) : Plan :=
  { plan with
    action := .finish, still := some still, reheat := none, figures := Figures.absent, base := none,
    stage := .finalStage }

/-- A pending request for one step completed CANCELLED; without one, no completion (R83 step 1). -/
def cancelStep (step : Nat) (s : State) : State :=
  match s.admission.pending.find? (fun p => p.step == step) with
  | none => s
  | some p =>
    completeStep .cancelled p
      { s with admission := { s.admission with
          pending := s.admission.pending.filter (fun q => q.step != step) } }

/-- PLAN_FINAL of a guard expiry, when the plan is present. -/
def postExpiry (s : State) : State :=
  match s.context.plan with
  | some plan => postPlanFinal (expiredPlan plan s.context.still) s
  | none => s

/-- Guard expiry (R83): the DRUM request and those chained above it cancelled, the DRUM claim withdrawn,
CLOSE (GUARD_EXPIRED) queued, PLAN_FINAL posted, NO_CYCLE entered. -/
def guardExpiry (s : State) : State :=
  let s1 := settleChain (cancelStep 1 s)
  enterNoCycle (postExpiry (writeRecord .closed (.close .guardExpired) s1))

/-- The guard test made, and the plan retired when it fails (R82, R83). -/
def guardTest (s : State) : State := if guardExpired s then guardExpiry s else s

/-- A grant with the drum grant's finalisation (R126 step 7, R86). -/
def grant (p : StepRequest) (s : State) : State :=
  let s1 := grantStep p s
  if s.context.cycleState = .resuming ∧ p.step = 1 then finalise s1 else s1

end Sys2Proof.Machine
end

