-- ==== Sys2Proof/Machine/LineOps.lean ====
section
/-! DEFINITION. The Bank Line Controller's and the Peer View's operations (R90 to R118): filling a
frame, attempts and their ends, failures, line modes, the join window, and the entries of the view. -/

namespace Sys2Proof.Machine

/-! ## Filling a frame (R92, R93) -/

/-- The station state a frame announces, the first case that applies (R92). -/
def stationStateFor (f : QueuedFrame) (s : State) : StationState :=
  if f.leaving then .leaving
  else if s.line.mode = .joining then .joining
  else if s.admission.pending ≠ [] then .waiting
  else if s.admission.held ≠ [] then .running
  else if s.context.cycleState = .stopped then .stopped
  else .idle

/-- A delta byte: the delta, or a free value where a sum exceeds the byte (log entry 4). -/
def deltaByte (delta : Nat) : Byte := if delta ≤ 255 then byte8 delta else Config.wideDelta delta

/-- The step of the claim a PRESENCE repeats: the claim's while it is HOLDING, 0 otherwise (R93). -/
def presenceStep (s : State) : Nat :=
  match s.admission.claim with
  | .holding n _ _ => n
  | .unannounced => 0
  | .sending _ _ => 0

/-- The station number of a frame's A: the configured one; a free value without one (log entry 4). -/
def frameStation (s : State) : Nat :=
  match s.settings with
  | some c => c.station
  | none => (Config.unconfiguredStation s.freeIndex).toNat

/-- The frame as an attempt fills it: the self-description from the state, the kind fields from the
queue, and for a PRESENCE the step and deltas from the claim (R92, R93). -/
def fillFrame (f : QueuedFrame) (s : State) : Frame :=
  let k := presenceStep s
  let step := if f.kind = .presence then k else f.step
  { arb := arbitrationByte (urgency s) (frameStation s)
    kind := f.kind
    station := stationStateFor f s
    feeder := if f.leaving then 0 else ownFeeder s
    duct := if f.leaving then 0 else ownDuct s
    prefixLen := if f.leaving then 0 else heldLen s
    step := step
    feederDelta := deltaByte (if f.kind = .presence then stepFeeder (cfg s) k else f.feederDelta)
    ductDelta := deltaByte (if f.kind = .presence then stepDuct (cfg s) k else f.ductDelta) }

/-- The line mode permits sending the head frame: all kinds in BANKED, ALONE and SOLO, PRESENCE in
JOINING, the LEAVING frame in OFF while the transmitter is on (R99, R105). -/
def sendPermitted (f : QueuedFrame) (s : State) : Bool :=
  match s.line.mode with
  | .off => f.leaving && transmitterOn s
  | .joining => f.kind == .presence
  | .banked | .alone => true
  | .solo _ => true

/-- An attempt of the head frame begins (R91, R92). Its samples reach the receiver when it ends (log
entry 23). -/
def beginAttempt (f : QueuedFrame) (s : State) : State :=
  { s with
    line := { s.line with attempt := some ⟨f, (fillFrame f s).bytes, none⟩ }
    freeIndex := if s.settings = none then s.freeIndex + 1 else s.freeIndex }

/-- The receiver watches the line: in every mode but OFF, and in OFF while the LEAVING frame of a loss is
queued or under attempt (R90). -/
def watching (l : Line) : Bool := decide (l.mode ≠ .off) || !l.queue.isEmpty

/-! ## Line modes (R102, R103, R105) -/

/-- The presence timer restarts at a frame sent; it does not run in OFF (R98, R101). -/
def restartPresence (s : State) : State :=
  if s.line.mode = .off then s
  else { s with line := { s.line with presenceRunning := true, presenceTicks := 0 } }

/-- A change of line mode with its LINE event, handed at once to the Admission Unit, which acts on an
entry into SOLO (R103, R138). -/
def changeMode (mode : LineMode) (cause : LineCause) (s : State) : State :=
  let s1 := post (.line mode cause) { s with line := { s.line with mode := mode } }
  if mode.isSolo && !s.line.mode.isSolo then soloEntry s1 else s1

/-- The early end of a join window: its timer stops, and the presence timer starts if it is stopped
(R102). -/
def endJoinEarly (s : State) : State :=
  if s.line.mode = .joining then
    let l := { s.line with joinRunning := false }
    { s with line :=
        if l.presenceRunning then l else { l with presenceRunning := true, presenceTicks := 0 } }
  else s

/-- The mode that the view and the bank size give without a duplicate (R102, R103). -/
def modeByView (s : State) : LineMode :=
  if s.view ≠ [] then .banked
  else if (cfg s).bankSize = 1 then .alone
  else .solo .noPeers

/-- Line fault (R95, R103): SOLO with LINE_FAULT from JOINING, BANKED, ALONE and SOLO with NO_PEERS. -/
def lineFault (s : State) : State := changeMode (.solo .lineFault) .lineFault (endJoinEarly s)

/-- The join window begins (R102): JOINING, the queue and the view emptied, the failure count cleared,
the presence timer stopped, the window timer from 0. A receiver that was idle begins to watch with an
idle count of 0 (R91). That an attempt of the LEAVING frame still in progress is cut off is the model's
choice (log entry 21). -/
def beginJoin (s : State) : State :=
  { s with
    line := { s.line with
      mode := .joining, queue := [], attempt := none, failures := 0, presenceRunning := false,
      presenceTicks := 0, joinRunning := true, joinTicks := 0, joinSlotDone := false,
      receiver := if watching s.line then s.line.receiverAfterCut else Receiver.initial }
    view := [] }

/-! ## Ends of attempts (R94 to R98, R100) -/

/-- The Admission Unit told that a frame was sent: the sending of a CLAIM starts its hold (R98, R125). -/
def tellSent (f : QueuedFrame) (s : State) : State :=
  match s.admission.claim with
  | .sending n u =>
    if f.kind = .claim ∧ f.step = n then
      { s with admission := { s.admission with claim := .holding n u 0 } }
    else s
  | .holding _ _ _ => s
  | .unannounced => s

/-- The head frame leaves the queue, and the failure count returns to 0 (R95, R98). -/
def dropHead (s : State) : State :=
  { s with line := { s.line with queue := s.line.queue.tail, failures := 0 } }

/-- The head frame removed and counted as sent in two hand-offs: the presence timer restarts and the
Admission Unit is told (R96). -/
def countAsSent (f : QueuedFrame) (s : State) : State := tellSent f (restartPresence (dropHead s))

/-- A failed attempt of the head frame, by bit error or held line (R95, R96). A count that stands at 8 when
a duplicate ends a line fault stays, so that the next failure under DUPLICATE_STATION counts the head
frame as sent: the rules do not say, and that is the model's choice (log entry 19). -/
def failHead (f : QueuedFrame) (s : State) : State :=
  match s.line.mode with
  | .solo .lineFault => countAsSent f s
  | .solo .duplicateStation =>
    if Config.failureLimit ≤ s.line.failures + 1 then countAsSent f s
    else { s with line := { s.line with failures := s.line.failures + 1 } }
  | .off =>
    if Config.failureLimit ≤ s.line.failures + 1 then dropHead s
    else { s with line := { s.line with failures := s.line.failures + 1 } }
  | .joining | .banked | .alone | .solo .noPeers =>
    if Config.failureLimit ≤ s.line.failures + 1 then
      lineFault { s with line := { s.line with failures := Config.failureLimit } }
    else { s with line := { s.line with failures := s.line.failures + 1 } }

/-- The head frame counts as sent after a bit error: under LINE_FAULT, and at the eighth failure under
DUPLICATE_STATION (R95, R96). -/
def errorCountsAsSent (s : State) : Bool :=
  match s.line.mode with
  | .solo .lineFault => true
  | .solo .duplicateStation => decide (Config.failureLimit ≤ s.line.failures + 1)
  | .off | .joining | .banked | .alone | .solo .noPeers => false

/-- The admission test resumes at the first tick after the attempt of a withdrawn CLAIM (R127). -/
def resumeTestAtTick (s : State) : State :=
  { s with admission := { s.admission with testAtTick := true } }

/-- The end of an attempt of a withdrawn CLAIM without its being sent: the CLAIM is removed and the
WITHDRAWN discarded (R100). -/
def dropWithdrawnClaim (s : State) : State := resumeTestAtTick (dropHead s)

/-! ## Peer View (R106 to R113) -/

/-- The claim a written entry records, from the frame's kind and step (R109). -/
def claimOf (f : Frame) : Option PeerClaim :=
  if (f.kind = .claim ∨ f.kind = .presence) ∧ 1 ≤ f.step then
    some ⟨f.step, f.feederDelta.toNat, f.ductDelta.toNat, f.arb⟩
  else none

/-- The entry a frame writes (R108). -/
def entryOf (f : Frame) : PeerEntry where
  number := f.number
  status := .present
  station := f.station
  feeder := f.feeder
  duct := f.duct
  prefixLen := f.prefixLen
  urgency := f.urgency
  claim := claimOf f
  heardAge := 0

/-- The view holds an entry for a station number. -/
def hasEntry (view : List PeerEntry) (number : Nat) : Bool := view.any (fun e => e.number == number)

/-- An entry created or replaced, the list kept in rising order of station number (R106, R108). -/
def writeEntry (e : PeerEntry) : List PeerEntry → List PeerEntry
  | [] => [e]
  | x :: rest =>
    if e.number < x.number then e :: x :: rest
    else if e.number = x.number then e :: rest
    else x :: writeEntry e rest

/-- The entry becomes SILENT: its claim dropped, its silent age 0, the rest kept (R111). -/
def PeerEntry.silenced (e : PeerEntry) : PeerEntry :=
  { e with status := .silent 0, claim := none, heardAge := Config.silentTicks }

/-- The line mode at the creation of an entry: ALONE and SOLO with NO_PEERS become BANKED (R103). -/
def entryCreated (s : State) : State :=
  match s.line.mode with
  | .alone => changeMode .banked .peerHeard s
  | .solo .noPeers => changeMode .banked .peerHeard s
  | .off | .joining | .banked | .solo .lineFault | .solo .duplicateStation => s

/-- The line mode at the removal of the last entry: BANKED becomes ALONE or SOLO with NO_PEERS (R103,
R112). -/
def lastEntryRemoved (s : State) : State :=
  match s.line.mode with
  | .banked => changeMode (if (cfg s).bankSize = 1 then .alone else .solo .noPeers) .peersGone s
  | .off | .joining | .alone | .solo _ => s

/-- A frame bearing another station's number, as one event in the order of R110. -/
def hearPeer (f : Frame) (s : State) : State :=
  let created := !hasEntry s.view f.number
  let s1 := { s with view := writeEntry (entryOf f) s.view }
  let s2 := if created then entryCreated s1 else s1
  let s3 := viewChange s2
  if f.kind = .taken ∧ (f.step = 1 ∨ f.step = 2) then peerMotorStart s3 else s3

/-- A duplicate station (R104): at the first such frame the mark is set and the mode becomes SOLO with
DUPLICATE_STATION, ending a join window early; later ones change nothing. -/
def hearDuplicate (s : State) : State :=
  if s.line.duplicateMark then s
  else
    let s1 := { s with line := { s.line with duplicateMark := true } }
    changeMode (.solo .duplicateStation) .duplicateStation (endJoinEarly s1)

end Sys2Proof.Machine
end

