-- ==== Sys2Proof/Machine/SupplyOps.lean ====
section
/-! DEFINITION. The gauge's charging, release and fault, the log-ratio (R55 to R67), and the Supply
Monitor's operations: the loss sequence and the entries into the supply states (R37 to R49). -/

namespace Sys2Proof.Machine

/-! ## The gauge (R56 to R67) -/

/-- The counter value that is itself the saturated value (R56). -/
def saturatedCount : BitVec 16 := 65535#16

/-- CHARGING entered (R59). -/
def Gauge.enterCharging (g : Gauge) : Gauge :=
  { g with
    gaugeState := .charging, n0 := 0, releasedFromArmed := false, previous := none, chargingTime := 0,
    chargingTicks := 0, converting := false }

/-- FAULT entered and GAUGE_FAULT posted (R65). -/
def gaugeFault (cause : GaugeCause) (s : State) : State :=
  post (.gaugeFault cause) { s with gauge := { s.gauge with gaugeState := .fault, converting := false } }

/-- The number of doublings of `n1` that stay within `n0` (R67); sixteen suffice for any counts. -/
def doublings (n0 : Nat) : Nat → Nat → Nat
  | 0, _ => 0
  | fuel + 1, n1 => if 2 * n1 ≤ n0 then doublings n0 fuel (2 * n1) + 1 else 0

/-- The table T of R67. -/
def ratioTable : List Nat := [0, 22, 43, 63, 82, 100, 117, 134, 149, 164, 179, 193, 206, 219, 232, 244]

/-- The log-ratio of two counts with 16 ≤ n1 < n0 (R67). -/
def tableRatio (n0 n1 : Nat) : LogRatio :=
  let k := doublings n0 16 n1
  if 8 ≤ k then .over
  else
    let scaled := n1 * 2 ^ k
    .ratio (256 * k + ratioTable.getD (16 * (n0 - scaled) / scaled) 0)

/-- The log-ratio L of the journal's N0 to the start-up result, the first case that applies (R66). -/
def logRatioOf (n0 : Nat) (result : StartupResult) : LogRatio :=
  match result with
  | .count n1 =>
    if n0 < Config.leastFullCount then .unknown
    else if n1 < 16 then .over
    else if n0 ≤ n1 then .ratio 0
    else tableRatio n0 n1
  | .saturated | .abandoned | .noneYet => .unknown

/-- A conversion in progress abandoned (R57): N0, the previous charging count, the charging time and the
refresh timer stand as before it started. A timer that starts a conversion begins again from 0 as it does
so (R59, R62), so 0 is what its ticks go back to (log entry 24). -/
def Gauge.abandon (g : Gauge) : Gauge :=
  if g.converting then
    { g with
      converting := false
      chargingTicks := if g.gaugeState = .charging then 0 else g.chargingTicks
      refreshTicks := if g.gaugeState = .armed then 0 else g.refreshTicks }
  else g

/-- The gauge released at a loss, by its state, once any conversion has been abandoned (R63). -/
def Gauge.releaseState (g : Gauge) : Gauge :=
  match g.gaugeState with
  | .measuring =>
    { g with
      gaugeState := .released, releasedFromArmed := false, startup := .abandoned,
      logRatio := logRatioOf g.journalN0 .abandoned }
  | .charging => { g with gaugeState := .released, releasedFromArmed := false }
  | .armed => { g with gaugeState := .released, releasedFromArmed := true }
  | .fault | .idle | .released => g

/-- The gauge at a loss (R57, R63). -/
def Gauge.release (g : Gauge) : Gauge := g.abandon.releaseState

/-- The gauge at a warm return, by its state (R64). -/
def Gauge.warmReturn (g : Gauge) : Gauge :=
  match g.gaugeState with
  | .released => g.enterCharging
  | .idle | .measuring | .charging | .armed | .fault => g

/-! ## Supply states (R42 to R44) -/

/-- DORMANT entered (R43, R105): the settle cleared, the transmitter off with its attempt cut off and
its queue emptied. -/
def enterDormant (s : State) : State :=
  { s with
    supply := { s.supply with supplyState := .dormant, settle := 0, settleOpen := false }
    line := { s.line with queue := [], attempt := none, failures := 0 } }

/-- HOLDING entered (R42); a reading of LOW at that moment makes DORMANT follow at once. -/
def enterHolding (s : State) : State :=
  let s1 := { s with supply := { s.supply with supplyState := .holding, settle := 0, settleOpen := false } }
  if s.supply.vhold = .low then enterDormant s1 else s1

/-- RETURNING entered (R44): the settle count 0, and a waiting record started if nothing is in flight. -/
def enterReturning (s : State) : State :=
  startWaiting { s with supply := { s.supply with supplyState := .returning, settle := 0, settleOpen := false } }

/-! ## The loss sequence (R8, R41) -/

/-- Step 3 of the loss sequence: the pending requests completed CANCELLED, every held step released
with its waiters completed DONE, STEP_LOST posted if any step was held, the claim abandoned and every
item of R120 at its value after a loss. -/
def lossAdmission (s : State) : State :=
  let s1 := completeAllPending .cancelled s
  let s2 := finishWaiters { s1 with admission := { s1.admission with held := [] } }
  let s3 := if 1 ≤ heldLen s then postStepLost 1 .loss s2 else s2
  { s3 with admission := { Admission.initial with waiters := s3.admission.waiters } }

/-- Step 4 of the loss sequence on the context (R8, R12, R13): RUNNING and RESUMING become INTERRUPTED,
any plan is discarded, both timers stop. -/
def lossContext (s : State) : State :=
  let c := s.context
  discardPlan { s with context := { c with
    cycleState := match c.cycleState with
      | .running | .resuming => .interrupted
      | .noCycle => .noCycle
      | .stopped => .stopped
      | .interrupted => .interrupted
    stillStarted := false
    stillTicks := 0
    freshRunning := false } }

/-- The reason of a LOSS record: the stop reason when it carries STOPPED, 0 otherwise (R20). -/
def lossReason (c : Context) : Reason :=
  match c.cycleState with
  | .stopped => .stop (c.stopReason.getD 0)
  | .noCycle | .running | .interrupted | .resuming => .zero

/-- Steps 4 and 5: the journal take, the context's post-loss state, and the LOSS record if the cycle
state was other than NO_CYCLE (R8, R41). -/
def lossRecord (s : State) : State :=
  let taken := s.exchange.newest?
  let s1 := lossContext { s with exchange := s.exchange.take }
  if s.context.cycleState = .noCycle then s1
  else queueRecord (snapshot .loss (lossReason s1.context) taken s1) s1

/-- Step 6: the LEAVING frame alone in the queue, the line OFF, the view cleared (R105, R107). The
deltas are those of the steps released, `released` of them. A receiver that was idle begins to watch
with an idle count of 0 (R91); an attempt in progress is cut off. -/
def vacateLine (released : Nat) (s : State) : State :=
  let c := cfg s
  { s with
    line := { s.line with
      mode := .off
      queue := [⟨.released, 0, sumFeeder c 1 released, sumDuct c 1 released, true⟩]
      attempt := none
      failures := 0
      presenceRunning := false
      presenceTicks := 0
      joinRunning := false
      joinTicks := 0
      joinSlotDone := false
      receiver := if s.line.mode = .off then Receiver.initial else s.line.receiverAfterCut }
    view := [] }

/-- A CONFIGURE held in service at a loss is refused SUPPLY_LOST after the sequence (R50, R69). -/
def refuseHeld (s : State) : State := completeService .supplyLost 0 s

/-- A loss declaration: the loss sequence in the order of R41, the loss timer from 0 (R45), HOLDING
(R42), and the refusal of a request held in service (R69). -/
def declareLoss (s : State) : State :=
  let released := heldLen s
  let s1 := permitsDown s
  let s2 := { s1 with gauge := s1.gauge.release }
  let s3 := lossRecord (lossAdmission s2)
  let s4 := vacateLine released s3
  let s5 := post (.mainsLost s4.context.cycleState) s4
  let s6 := { s5 with supply := { s5.supply with lossRunning := true, lossTicks := 0, lossReading := 0 } }
  refuseHeld (enterHolding s6)

end Sys2Proof.Machine
end

