-- ==== Sys2Proof/Machine/PortCommands.lean ====
section
/-! DEFINITION. The four SPI transactions (R152, R153, R160, R162, R163). -/

namespace Sys2Proof.Machine

/-- The room test of a SEND_REQUEST (R153). -/
def requestRoom (s : State) : Bool := decide (outstanding s < Config.requestLimit) && hasRoom s

/-- SEND_REQUEST: the record is judged at its 28th byte, and its status is shifted out with the 29th. -/
def sendRequestBody (mosi : List Byte) (s : State) : State × List Byte :=
  if mosi.length < Config.requestBytes then (s, [])
  else
    let zeros : List Byte := List.replicate Config.requestBytes 0
    if requestRoom s then
      ({ s with port := { s.port with requests := s.port.requests ++ [requestOf mosi] } }, zeros ++ [1])
    else (s, zeros ++ [2])

/-- SEND_REQUEST (R153). -/
def execSendRequest (mosi : List Byte) (s : State) : Host.Outcome State Fault Refusal :=
  .next (transaction .sendRequest mosi sendRequestBody s)

/-- TAKE_EVENT: the oldest event or the empty marker is latched, and removed at its 24th byte. -/
def takeEventBody (clocked : Nat) (s : State) : State × List Byte :=
  let latched := (s.port.events.head?.map Event.bytes).getD emptyMarker
  if clocked < Config.eventBytes then (s, latched)
  else ({ s with port := { s.port with events := s.port.events.tail } }, latched)

/-- TAKE_EVENT (R160). -/
def execTakeEvent (mosi : List Byte) (s : State) : Host.Outcome State Fault Refusal :=
  .next (transaction .takeEvent mosi (fun rest => takeEventBody rest.length) s)

/-- The commit's tests against the context as it stands (R15). -/
def commitAccepted (p : Progress) (c : Context) : Bool :=
  c.cycleState == .running
    && (match c.progress with
      | some q => p.cycleId == q.cycleId && decide (q.phase.rank ≤ p.phase.rank)
      | none => false)

/-- The commit's phase is later than the context's (R15 step 6). -/
def phaseAdvances (p : Progress) (c : Context) : Bool :=
  match c.progress with
  | some q => decide (q.phase.rank < p.phase.rank)
  | none => false

/-- An accepted commit (R15): the roles rotate, the context takes the figures, STALE and AGED are
cleared, the freshness timer restarts, and a later phase queues a PROGRESS record. -/
def acceptCommit (p : Progress) (s : State) : State :=
  let s1 := { s with
    exchange := s.exchange.commit p
    context := { s.context with
      progress := some p, stale := false, aged := false, freshRunning := true, freshTicks := 0 } }
  if phaseAdvances p s.context then writeRecord .progress .zero s1 else s1

/-- The commit at the rise of CS_N, accepted or rejected (R15, R162). -/
def commitProgress (mosi : List Byte) (s : State) : State :=
  match progressOf mosi with
  | some p =>
    if commitAccepted p s.context then acceptCommit p s
    else { s with port := { s.port with progressRejected := true } }
  | none => { s with port := { s.port with progressRejected := true } }

/-- WRITE_PROGRESS: a commit of the first ten bytes, or an abort before the tenth (R16). -/
def writeProgressBody (mosi : List Byte) (s : State) : State × List Byte :=
  if mosi.length < Config.progressBytes then (s, []) else (commitProgress mosi s, [])

/-- WRITE_PROGRESS (R162). -/
def execWriteProgress (mosi : List Byte) (s : State) : Host.Outcome State Fault Refusal :=
  .next (transaction .writeProgress mosi writeProgressBody s)

/-- READ_STATUS: the summary is latched, and its two flags are cleared if the ninth byte went out. -/
def readStatusBody (clocked : Nat) (s : State) : State × List Byte :=
  if clocked < Config.statusBytes then (s, statusBytes s)
  else ({ s with port := { s.port with eventsLost := false, progressRejected := false } }, statusBytes s)

/-- READ_STATUS (R163). -/
def execReadStatus (mosi : List Byte) (s : State) : Host.Outcome State Fault Refusal :=
  .next (transaction .readStatus mosi (fun rest => readStatusBody rest.length) s)

end Sys2Proof.Machine
end

