-- ==== Sys2Proof/Machine/RequestCommands.lean ====
section
/-! DEFINITION. The requests taken into service: CONFIGURE, the cycle requests, the step requests and
the request of an unknown kind (R4 to R7, R9, R121, R130, R154, R157, R158). -/

namespace Sys2Proof.Machine

/-! ## CONFIGURE (R69, R157, R158) -/

/-- Acceptance, as one event in the six steps of R158. -/
def acceptConfigure (raw : Settings) (s : State) : State :=
  let c := raw.clamped
  let off := gaugeOffTime s.gauge.logRatio c.halfLife
  let s1 := { s with
    settings := some c
    assessor := { s.assessor with gaugeOff := some off }
    journal := { s.journal with intervalRunning := true, intervalTicks := 0 } }
  let s2 := completeService (if clampedMap raw = 0 then .done else .clamped) (clampedMap raw) s1
  let s3 := assess .gauge off s.supply.carried s2
  let s4 := { s3 with supply := { s3.supply with carried := 0 } }
  if s4.supply.supplyState = .onMains then beginJoin s4 else s4

/-- The tests of R157 in their order, then the acceptance. -/
def decideConfigure (r : Request) (s : State) : State :=
  let raw := r.settings
  if s.settings ≠ none then completeService .alreadyConfigured 0 s
  else if badStationMap raw ≠ 0 then completeService .badStation (badStationMap raw) s
  else if badLimitMap raw ≠ 0 then completeService .badLimit (badLimitMap raw) s
  else acceptConfigure raw s

/-- While the gauge is IDLE or MEASURING the request stays in service (R69). -/
def configureOwner (r : Request) (s : State) : State :=
  if s.gauge.gaugeState = .idle ∨ s.gauge.gaugeState = .measuring then s else decideConfigure r s

/-- CONFIGURE taken into service. -/
def execConfigure (s : State) : Host.Outcome State Fault Refusal :=
  whenRunning (serveKind .configure configureOwner) s

/-! ## Cycle requests (R4 to R7, R9) -/

/-- The initial phase an OPEN_CYCLE may carry. -/
def openPhase (b : Byte) : Option Phase :=
  match phaseOf b with
  | some .heat => some .heat
  | some .cool => some .cool
  | some .guarding => none
  | none => none

/-- The context of a cycle opened fresh (R4), before it is RUNNING. -/
def openedContext (p : Progress) (c : Context) : Context :=
  { c with
    progress := some p, base := 4, stale := false, aged := false, doorSeen := false,
    stopReason := none, plan := none }

/-- OPEN_CYCLE (R4). -/
def openCycleOwner (r : Request) (s : State) : State :=
  if s.context.cycleState ≠ .noCycle then completeService .cycleOpen 0 s
  else
    match openPhase (byteAt r.params 2) with
    | none => completeService .badCycle 0 s
    | some ph =>
      if num16 r.params 0 = 0 then completeService .badCycle 0 s
      else
        let p : Progress := ⟨num16 r.params 0, ph, num16 r.params 3, num16 r.params 5, num16 r.params 7⟩
        let s1 := enterRunning { s with context := openedContext p s.context }
        completeService .done 0 (writeRecord .opened .zero s1)

/-- OPEN_CYCLE taken into service. -/
def execOpenCycle (s : State) : Host.Outcome State Fault Refusal :=
  whenRunning (serveKind .openCycle openCycleOwner) s

/-- The context of a stopped cycle (R5, R12). -/
def stoppedContext (reason : Byte) (c : Context) : Context :=
  { c with cycleState := .stopped, stopReason := some reason, freshRunning := false, stillTicks := 0 }

/-- HOST_STOP (R5). -/
def hostStopOwner (r : Request) (s : State) : State :=
  if s.context.cycleState = .running then
    let s1 := releaseAllForHost { s with context := stoppedContext r.param s.context }
    completeService .done 0 (writeRecord .stopped (.stop r.param) s1)
  else completeService .wrongState 0 s

/-- HOST_STOP taken into service. -/
def execHostStop (s : State) : Host.Outcome State Fault Refusal :=
  whenRunning (serveKind .hostStop hostStopOwner) s

/-- CONTINUE_CYCLE (R6). -/
def continueCycleOwner (_r : Request) (s : State) : State :=
  if s.context.cycleState = .stopped then
    let s1 := discardPlan s
    let s2 := enterRunning { s1 with context := { s1.context with stopReason := none, doorSeen := false } }
    completeService .done 0 (writeRecord .resumed .continued s2)
  else completeService .wrongState 0 s

/-- CONTINUE_CYCLE taken into service. -/
def execContinueCycle (s : State) : Host.Outcome State Fault Refusal :=
  whenRunning (serveKind .continueCycle continueCycleOwner) s

/-- CLOSE_CYCLE (R7). -/
def closeCycleOwner (r : Request) (s : State) : State :=
  match s.context.cycleState with
  | .running | .stopped | .resuming =>
    completeService .done 0
      (enterNoCycle (writeRecord .closed (.close (closeReasonOf r.param)) (releaseAllForHost s)))
  | .noCycle | .interrupted => completeService .wrongState 0 s

/-- CLOSE_CYCLE taken into service. -/
def execCloseCycle (s : State) : Host.Outcome State Fault Refusal :=
  whenRunning (serveKind .closeCycle closeCycleOwner) s

/-- A plan awaits an answer: in INTERRUPTED alone (R9, R71). -/
def awaitedPlan (s : State) : Option Plan :=
  if s.context.cycleState = .interrupted ∧ s.assessor.awaiting then s.context.plan else none

/-- The accepted plan (R9, R82): the urgency base, RESUMING, the answer no longer awaited, DONE, and
then the guard test at the entry. -/
def acceptPlan (plan : Plan) (s : State) : State :=
  let s1 := { s with
    context := { s.context with cycleState := .resuming, base := plan.base.getD s.context.base }
    assessor := { s.assessor with awaiting := false } }
  guardTest (completeService .done 0 s1)

/-- The declined plan (R9): CLOSE (DECLINED), NO_CYCLE, DONE. -/
def declinePlan (s : State) : State :=
  completeService .done 0 (enterNoCycle (writeRecord .closed (.close .declined) s))

/-- RESUME_ANSWER (R9, R156). -/
def resumeAnswerOwner (r : Request) (s : State) : State :=
  if r.param = 1 then
    match awaitedPlan s with
    | none => completeService .notAsked 0 s
    | some plan => if s.permits.doorOpen then completeService .doorOpen 0 s else acceptPlan plan s
  else if r.param = 2 then
    match awaitedPlan s with
    | none => completeService .notAsked 0 s
    | some _ => declinePlan s
  else completeService .badAnswer 0 s

/-- RESUME_ANSWER taken into service. -/
def execResumeAnswer (s : State) : Host.Outcome State Fault Refusal :=
  whenRunning (serveKind .resumeAnswer resumeAnswerOwner) s

/-! ## Step requests (R121, R130 to R133) -/

/-- The request in service passes on to the Admission Unit and stays outstanding there (R154). -/
def leaveService (s : State) : State := { s with port := { s.port with inService := none } }

/-- The tests of a REQUEST_STEP, in their order (R121). -/
def stepRefusal (s : State) (step : Nat) : Option Result :=
  if step < 1 ∨ Config.stepCount < step then some .badStep
  else if s.context.cycleState ≠ .running ∧ s.context.cycleState ≠ .resuming then some .notRunning
  else if s.permits.doorOpen then some .doorOpen
  else if isHeld s step ∨ isPending s step then some .duplicate
  else if !(prerequisiteHeld s step || isPending s (step - 1)) then some .stepOrder
  else none

/-- REQUEST_STEP (R121). -/
def requestStepOwner (r : Request) (s : State) : State :=
  let step := r.param.toNat
  match stepRefusal s step with
  | some result => completeService result 0 s
  | none =>
    let s1 := leaveService s
    { s1 with admission := { s1.admission with
        pending := insertRequest ⟨step, r.tag, 0, 0⟩ s1.admission.pending } }

/-- REQUEST_STEP taken into service. -/
def execRequestStep (s : State) : Host.Outcome State Fault Refusal :=
  whenRunning (serveKind .requestStep requestStepOwner) s

/-- The held steps from `low` up given a release mark (R133). -/
def markFrom (low : Nat) (held : List HeldStep) : List HeldStep :=
  held.mapIdx fun i h => if low ≤ i + 1 then { h with mark := true } else h

/-- DROP_STEP (R130): of a pending step (R131), of DRUM or AIR (R132), of a held heat step (R133). -/
def dropStepOwner (r : Request) (s : State) : State :=
  let step := r.param.toNat
  if step < 1 ∨ Config.stepCount < step then completeService .badStep 0 s
  else if isPending s step then completeService .done 0 (settleChain (cancelStep step s))
  else if isHeld s step then
    if step ≤ 2 then completeService .done 0 (finishWaiters (settleChain (releaseAtOnce step s)))
    else
      let s1 := leaveService s
      settleChain { s1 with admission := { s1.admission with
        held := markFrom step s1.admission.held
        waiters := s1.admission.waiters ++ [⟨step, r.tag⟩] } }
  else completeService .notHeld 0 s

/-- DROP_STEP taken into service. -/
def execDropStep (s : State) : Host.Outcome State Fault Refusal :=
  whenRunning (serveKind .dropStep dropStepOwner) s

/-! ## A request of an unknown kind (R154) -/

/-- UNKNOWN_KIND_SERVED: the head request is of no kind the port knows; the common tests refuse it. -/
def execUnknownKindServed (s : State) : Host.Outcome State Fault Refusal :=
  whenRunning (takeIntoService (fun b => requestKindOf b == none) (fun _ t => completeService .badKind 0 t)) s

end Sys2Proof.Machine
end

