-- ==== Sys2Proof/Machine/PowerCommands.lean ====
section
/-! DEFINITION. The starts and ends of operation: cold start, core supply failure, RESET_N, PIN start
and the recovery scan (R3, R30 to R36, R51 to R53, R58). -/

namespace Sys2Proof.Machine

/-- The store with the slot of any write in flight left torn (R18, R30). -/
def tornSlots (j : Journal) : Vector Slot 32 :=
  match j.inFlight with
  | some f => j.slots.set f.slot .failing
  | none => j.slots

/-- A start of the part with every block at its reset values (R36, R54, R55, R71, R105, R120, R141,
R164). The store stays, and so do the levels of the input pins. -/
def startPart (cause : ResetCause) (slots : Vector Slot 32) (s : State) : State :=
  State.started cause slots s.supply.vhold s.permits.doorRaw s.permits.doorInput s.pending s.freeIndex

/-- COLD_START (R51): the core supply has risen from below its minimum, so a write in flight has been
cut short and everything volatile lost. -/
def execColdStart (s : State) : Host.Outcome State Fault Refusal :=
  .next (startPart .cold (tornSlots s.journal) s)

/-- The part without core supply: a write in flight torn, everything volatile lost (R30, R51). -/
def failSupply (s : State) : State :=
  { startPart s.supply.cause (tornSlots s.journal) s with power := .unpowered }

/-- CORE_SUPPLY_FAIL (R51). -/
def execCoreSupplyFail (s : State) : Host.Outcome State Fault Refusal :=
  .next (if s.power = .unpowered then s else failSupply s)

/-- RESET_N taking effect (R31, R52): the permits low, SDO high-impedance, LINE_TX recessive with any
frame cut off and the receiver idle (R90), a waiting record discarded, a conversion abandoned (R57), every
block but the writer stopped. -/
def holdReset (s : State) : State :=
  { s with
    power := .resetHeld
    permits := { s.permits with drum := false, air := false, heat := false }
    journal := { s.journal with waiting := none }
    gauge := s.gauge.abandon
    line := { s.line with attempt := none, receiver := Receiver.initial }
    port := { s.port with sdo := [] } }

/-- RESET_N (R52): a low shorter than 10 µs is filtered out. A part without core supply does not look at
RESET_N, and a cold start runs into its scan whatever the pin's level: R53 gives the cause of such a start
alone, and the rest is the model's choice (log entry 11). -/
def execResetN (lowMicroseconds : Nat) (s : State) : Host.Outcome State Fault Refusal :=
  .next (if Config.resetMicroseconds ≤ lowMicroseconds ∧ s.power ≠ .unpowered then holdReset s else s)

/-- PIN_START (R31, R52): made from the reset once no write is in flight. -/
def execPinStart (s : State) : Host.Outcome State Fault Refusal :=
  .next (if s.power = .resetHeld ∧ s.journal.inFlight = none then startPart .pin s.journal.slots s else s)

/-! ## The recovery scan (R3, R33 to R35) -/

/-- The context that a record recovers as STOPPED or INTERRUPTED (R3). -/
def recoveredContext (r : Snapshot) (cycleState : CycleState) (stopReason : Option Byte) (aged : Bool) :
    Context :=
  { Context.initial with
    cycleState := cycleState, progress := some r.progress, still := r.still, base := r.base,
    stopReason := stopReason, stale := r.stale, aged := aged }

/-- The mapping of the newest record to the context (R3, R35). -/
def contextFromRecord (r : Snapshot) : Context :=
  match r.kind with
  | .closed => Context.initial
  | .stopped => recoveredContext r .stopped (some r.reason.byte) false
  | .loss =>
    if r.cycleState = .stopped then recoveredContext r .stopped (some r.reason.byte) r.aged
    else recoveredContext r .interrupted none r.aged
  | .opened | .progress | .resumed => recoveredContext r .interrupted none true

/-- The end of the recovery scan: what it hands the context, the gauge arithmetic and the Assessor, the
writer's place, and the start of the start-up reading (R34, R35, R58). -/
def endScan (s : State) : State :=
  let newest := newestRecord s.journal.slots
  { s with
    power := .running
    context := match newest with
      | some (_, r) => contextFromRecord r.body
      | none => Context.initial
    journal := { s.journal with
      nextSlot := match newest with
        | some (i, _) => Fin.ofNat 32 (i + 1)
        | none => 0
      nextSeq := match newest with
        | some (_, r) => r.seq + 1
        | none => 1
      inFlight := none
      waiting := none }
    assessor := { s.assessor with
      estimateMark := match newest with
        | some (_, r) => r.body.estimated
        | none => false }
    gauge := { s.gauge with
      gaugeState := .measuring
      converting := true
      journalN0 := match newest with
        | some (_, r) => r.body.n0
        | none => 0 } }

/-- RECOVERY_SCAN (R32, R35). -/
def execRecoveryScan (s : State) : Host.Outcome State Fault Refusal :=
  .next (if s.power = .scanning then endScan s else s)

end Sys2Proof.Machine
end

