-- ==== Sys2Proof/Machine/JournalCommands.lean ====
section
/-! DEFINITION. The events of the journal and of the context's two timers (R12, R13, R23, R27). -/

namespace Sys2Proof.Machine

/-- A write completes: its slot holds the record whole, and a waiting record starts unless the supply
is DORMANT or the part is in reset (R27, R28, R31). -/
def completeWrite (f : InFlight) (s : State) : State :=
  let s1 := { s with journal := { s.journal with
    slots := s.journal.slots.set f.slot (.whole f.record), inFlight := none } }
  if s.power = .running ∧ s.supply.supplyState ≠ .dormant then startWaiting s1 else s1

/-- WRITE_COMPLETE (R27): in reset too (R31), but not without core supply (R30). -/
def execWriteComplete (s : State) : Host.Outcome State Fault Refusal :=
  .next (match s.journal.inFlight with
    | some f => if s.power = .unpowered then s else completeWrite f s
    | none => s)

/-- The journal interval in ticks. -/
def intervalLimit (s : State) : Nat := (cfg s).journalInterval * Config.ticksPerSecond

/-- The journal interval's expiry: a PROGRESS record if a NEWEST buffer exists (R23). -/
def intervalExpiry (s : State) : State :=
  if s.journal.intervalRunning ∧ intervalLimit s ≤ s.journal.intervalTicks then
    let s1 := { s with journal := { s.journal with intervalTicks := 0 } }
    match s.exchange.newest? with
    | some _ => writeRecord .progress .zero s1
    | none => s1
  else s

/-- JOURNAL_INTERVAL (R23). -/
def execJournalInterval (s : State) : Host.Outcome State Fault Refusal := whenRunning intervalExpiry s

/-- The stale limit in ticks. -/
def staleTicks (s : State) : Nat := (cfg s).staleLimit * Config.ticksPerSecond

/-- The freshness timer stands at the stale limit in RUNNING: it stops, and the first time STALE is set
and PROGRESS_STALE posted (R13). -/
def freshnessLimit (s : State) : State :=
  if s.context.cycleState = .running ∧ s.context.freshRunning ∧ staleTicks s ≤ s.context.freshTicks then
    let s1 := { s with context := { s.context with freshRunning := false, freshTicks := staleTicks s } }
    if s.context.stale then s1
    else post (.progressStale ((s.context.progress.map (·.cycleId)).getD 0))
      { s1 with context := { s1.context with stale := true } }
  else s

/-- FRESHNESS_EXPIRY (R13). A commit taken first has restarted the timer, and then nothing expires. -/
def execFreshnessExpiry (s : State) : Host.Outcome State Fault Refusal := whenRunning freshnessLimit s

/-- The still timer's hundredth tick: 1 s added to S, with the guard test in RESUMING (R12, R83). -/
def stillSecond (s : State) : State :=
  if stillRuns s ∧ Config.ticksPerSecond ≤ s.context.stillTicks then
    guardTest { s with context := { s.context with still := satAdd s.context.still 1, stillTicks := 0 } }
  else s

/-- STILL_TIMER_SECOND (R12). -/
def execStillTimerSecond (s : State) : Host.Outcome State Fault Refusal := whenRunning stillSecond s

end Sys2Proof.Machine
end

