-- ==== Sys2Proof/Machine/SupplyCommands.lean ====
section
/-! DEFINITION. The Supply Monitor's events (R37, R38, R44 to R48). -/

namespace Sys2Proof.Machine

/-- Mains is present (R37). -/
def mainsPresent (s : State) : Bool := decide (s.supply.absence < Config.absenceLimit)

/-- A pulse: the absence count 0, and RETURNING entered from HOLDING while the reading is MID or OK, and
from DORMANT while it is OK (R37, R42, R43). -/
def pulse (s : State) : State :=
  let s1 := { s with supply := { s.supply with absence := 0, pulseSeen := true } }
  match s.supply.supplyState with
  | .holding => if s.supply.vhold ≠ .low then enterReturning s1 else s1
  | .dormant => if s.supply.vhold = .ok then enterReturning s1 else s1
  | .starting | .onMains | .returning => s1

/-- MAINS_ZC_PULSE (R37). A pulse counts during the recovery scan too; in reset and without core supply
the detector does not run. -/
def execMainsZcPulse (s : State) : Host.Outcome State Fault Refusal :=
  .next (if outOfReset s then pulse s else s)

/-- A dropout, the absence count standing at 3: a loss declaration in STARTING and ON_MAINS, HOLDING again
in RETURNING, no effect in HOLDING and DORMANT (R37, R40, R44). A pulse taken first has put the count to 0,
and then there is none. -/
def dropout (s : State) : State :=
  if mainsPresent s then s
  else
    match s.supply.supplyState with
    | .starting | .onMains => declareLoss s
    | .returning => enterHolding s
    | .holding | .dormant => s

/-- DROPOUT (R37). -/
def execDropout (s : State) : Host.Outcome State Fault Refusal := whenRunning dropout s

/-- The comparator's new reading: LOW enters DORMANT from HOLDING and RETURNING, and OK with mains
present leaves DORMANT (R38, R43, R44). -/
def newReading (reading : VholdReading) (s : State) : State :=
  let s1 := { s with supply := { s.supply with vhold := reading } }
  if s.power = .running then
    match s.supply.supplyState with
    | .holding | .returning => if reading = .low then enterDormant s1 else s1
    | .dormant => if reading = .ok ∧ mainsPresent s then enterReturning s1 else s1
    | .starting | .onMains => s1
  else s1

/-- VHOLD_READING (R38). The reading is the rail's, whether or not the part runs. -/
def execVholdReading (reading : VholdReading) (s : State) : Host.Outcome State Fault Refusal :=
  .next (newReading reading s)

/-- The loss timer's hundredth tick (R45). -/
def lossSecond (s : State) : State :=
  if s.supply.lossRunning ∧ Config.ticksPerSecond ≤ s.supply.lossTicks then
    { s with supply := { s.supply with lossReading := satAdd s.supply.lossReading 1, lossTicks := 0 } }
  else s

/-- LOSS_TIMER_SECOND (R45). -/
def execLossTimerSecond (s : State) : Host.Outcome State Fault Refusal := whenRunning lossSecond s

/-- The supply state ON_MAINS with the settle count cleared. -/
def enterOnMains (s : State) : State :=
  { s with supply := { s.supply with supplyState := .onMains, settle := 0, settleOpen := false } }

/-- The return confirmation that ends STARTING (R46). -/
def confirmStart (s : State) : State :=
  if s.supply.supplyState = .starting ∧ Config.settleLimit ≤ s.supply.settle then
    let s1 := enterOnMains s
    if s.settings ≠ none then beginJoin s1 else s1
  else s

/-- RETURN_CONFIRMATION (R46). -/
def execReturnConfirmation (s : State) : Host.Outcome State Fault Refusal := whenRunning confirmStart s

/-- The line at a warm return of an unconfigured part: OFF still, its queue emptied (R48, R105). -/
def emptyLine (s : State) : State := { s with line := { s.line with queue := [], attempt := none, failures := 0 } }

/-- The warm return, in the steps of R47 and for an unconfigured part with R48 in place of 4 and 6. -/
def confirmReturn (s : State) : State :=
  if s.supply.supplyState = .returning ∧ Config.settleLimit ≤ s.supply.settle then
    let reading := s.supply.lossReading
    let s1 := enterOnMains { s with supply := { s.supply with lossRunning := false } }
    let s2 := post (.mainsBack reading) s1
    let s3 := { s2 with context := { s2.context with stillStarted := true } }
    let s4 := if s3.settings ≠ none then beginJoin s3 else emptyLine s3
    let s5 := { s4 with gauge := s4.gauge.warmReturn }
    if s5.settings ≠ none then assess .timer (.seconds reading) 0 s5
    else { s5 with supply := { s5.supply with carried := satAdd s5.supply.carried reading } }
  else s

/-- WARM_RETURN (R47). -/
def execWarmReturn (s : State) : Host.Outcome State Fault Refusal := whenRunning confirmReturn s

end Sys2Proof.Machine
end

