-- ==== Sys2Proof/Machine/GaugeCommands.lean ====
section
/-! DEFINITION. The Off-Time Gauge's events (R56 to R62, R65, R69). -/

namespace Sys2Proof.Machine

/-- The gauge and the still timer at the end of the start-up reading (R58, R65, R66). -/
def endReading (counter : BitVec 16) (s : State) : State :=
  let s1 := { s with context := { s.context with stillStarted := true } }
  if counter = saturatedCount then
    gaugeFault .saturated { s1 with gauge := { s1.gauge with
      startup := .saturated, logRatio := logRatioOf s1.gauge.journalN0 .saturated } }
  else
    { s1 with gauge := { s1.gauge.enterCharging with
      startup := .count counter.toNat
      logRatio := logRatioOf s1.gauge.journalN0 (.count counter.toNat) } }

/-- A CONFIGURE held in service proceeds to its own tests (R69). -/
def resumeConfigure (s : State) : State :=
  match s.port.inService with
  | some r => decideConfigure r s
  | none => s

/-- STARTUP_READING_END (R58). -/
def execStartupReadingEnd (gaugeCounter : BitVec 16) (s : State) : Host.Outcome State Fault Refusal :=
  whenRunning (fun t => if t.gauge.gaugeState = .measuring then resumeConfigure (endReading gaugeCounter t) else t) s

/-- The charging time rises and a conversion starts with the pin released (R59). -/
def startCharging (s : State) : State :=
  if s.gauge.gaugeState = .charging ∧ s.gauge.converting = false ∧ s.gauge.chargingTime < Config.chargingLimit
      ∧ Config.ticksPerSecond ≤ s.gauge.chargingTicks then
    { s with gauge := { s.gauge with
        chargingTime := s.gauge.chargingTime + 1, chargingTicks := 0, converting := true } }
  else s

/-- CHARGING_CONVERSION_START (R59), at the 100th tick. -/
def execChargingConversionStart (s : State) : Host.Outcome State Fault Refusal := whenRunning startCharging s

/-- The arming test: a previous charging count is present and differs by no more than floor(N / 256)
from the new count N (R60). -/
def armingPasses (previous : Option Nat) (n : Nat) : Bool :=
  match previous with
  | some q => decide (n - q ≤ n / 256 ∧ q - n ≤ n / 256)
  | none => false

/-- A count that does not arm the gauge becomes the previous charging count (R59). -/
def keepCount (n : Nat) (s : State) : State := { s with gauge := { s.gauge with previous := some n } }

/-- The count of a charging conversion judged (R60, R61, R65). A steady count below 4,096 of the last
conversion is LOW_COUNT by R60 and does not arm by R61: that it is LOW_COUNT is the model's choice (log
entry 24). -/
def judgeCharging (counter : BitVec 16) (s : State) : State :=
  let n := counter.toNat
  if counter = saturatedCount then gaugeFault .saturated s
  else if armingPasses s.gauge.previous n then
    if Config.leastFullCount ≤ n then
      { s with gauge := { s.gauge with gaugeState := .armed, n0 := n, refreshTicks := 0, converting := false } }
    else gaugeFault .lowCount (keepCount n s)
  else if Config.chargingLimit ≤ s.gauge.chargingTime then gaugeFault .notSettled (keepCount n s)
  else { s with gauge := { s.gauge with previous := some n, converting := false } }

/-- CHARGING_CONVERSION_END (R60). -/
def execChargingConversionEnd (gaugeCounter : BitVec 16) (s : State) : Host.Outcome State Fault Refusal :=
  whenRunning (fun t => if t.gauge.gaugeState = .charging ∧ t.gauge.converting then judgeCharging gaugeCounter t else t) s

/-- The refresh timer restarts and a refresh conversion starts (R62). -/
def startRefresh (s : State) : State :=
  if s.gauge.gaugeState = .armed ∧ s.gauge.converting = false ∧ Config.refreshTicks ≤ s.gauge.refreshTicks then
    { s with gauge := { s.gauge with refreshTicks := 0, converting := true } }
  else s

/-- REFRESH_START (R62), at the 6,000th tick. -/
def execRefreshStart (s : State) : Host.Outcome State Fault Refusal := whenRunning startRefresh s

/-- The refresh conversion's outcome (R62). -/
def judgeRefresh (counter : BitVec 16) (s : State) : State :=
  if counter = saturatedCount then gaugeFault .saturated s
  else if counter.toNat < Config.leastFullCount then gaugeFault .lowCount s
  else { s with gauge := { s.gauge with n0 := counter.toNat, converting := false } }

/-- REFRESH_END (R62). -/
def execRefreshEnd (gaugeCounter : BitVec 16) (s : State) : Host.Outcome State Fault Refusal :=
  whenRunning (fun t => if t.gauge.gaugeState = .armed ∧ t.gauge.converting then judgeRefresh gaugeCounter t else t) s

end Sys2Proof.Machine
end

