-- ==== Sys2Proof/Machine/LineCommands.lean ====
section
/-! DEFINITION. The events of the bank line and of the Peer View (R91 to R104, R110 to R112). -/

namespace Sys2Proof.Machine

/-- The head frame that waits to be sent: no attempt is in progress and the line mode permits it (R91). -/
def waitingFrame (s : State) : Option QueuedFrame :=
  match s.line.attempt, s.line.queue with
  | none, f :: _ => if sendPermitted f s then some f else none
  | _, _ => none

/-- ATTEMPT_START (R91, R92): the head frame that waits, at an idle count of 12. -/
def execAttemptStart (s : State) : Host.Outcome State Fault Refusal :=
  whenRunning (fun t =>
    match waitingFrame t with
    | some f => if t.line.receiver.idleCount = Config.idleLimit then beginAttempt f t else t
    | none => t) s

/-- The attempt over, the levels read back in it taken by the receiver (R90, R91). -/
def endAttempt (levels : List Bool) (s : State) : State :=
  { s with line := { s.line with attempt := none, receiver := (s.line.receiver.run levels).1 } }

/-- The bit sent at a place of an attempt is recessive. -/
def Attempt.sentRecessive (a : Attempt) (bit : Nat) : Bool := (frameLevels a.bytes).getD bit false

/-- ARBITRATION_LOST (R94): a recessive bit of byte 0 read dominant. The frame stays at the head and the
failure count as it is; a withdrawn CLAIM is removed (R100). -/
def execArbitrationLost (bit : Nat) (s : State) : Host.Outcome State Fault Refusal :=
  whenRunning (fun t =>
    match t.line.attempt with
    | some a =>
      if bit < Config.charBits ∧ a.sentRecessive bit then
        let t1 := endAttempt (misreadLevels a.bytes bit) t
        if a.heldWithdrawn = none then t1 else dropWithdrawnClaim t1
      else t
    | none => t) s

/-- A bit error of an attempt (R95, R96, R100). -/
def failAttempt (a : Attempt) (bit : Nat) (s : State) : State :=
  let s1 := endAttempt (misreadLevels a.bytes bit) s
  match a.heldWithdrawn with
  | none => failHead a.frame s1
  | some w =>
    if errorCountsAsSent s1 then resumeTestAtTick (offer w (countAsSent a.frame s1))
    else dropWithdrawnClaim (failHead a.frame s1)

/-- BIT_ERROR (R95): any misread bit of bytes 1 to 11, or a dominant bit of byte 0 read recessive. -/
def execBitError (bit : Nat) (s : State) : Host.Outcome State Fault Refusal :=
  whenRunning (fun t =>
    match t.line.attempt with
    | some a =>
      if bit < Config.frameChars * Config.charBits ∧ (Config.charBits ≤ bit ∨ a.sentRecessive bit = false) then
        failAttempt a bit t
      else t
    | none => t) s

/-- The 100 ms of a held line have passed: one failed attempt of the head frame that waits, and the 100 ms
start again (R95). -/
def lineHeld (s : State) : State :=
  match waitingFrame s with
  | some f =>
    if Config.heldTicks ≤ s.line.receiver.heldTicks then
      failHead f { s with line := { s.line with receiver := { s.line.receiver with heldTicks := 0 } } }
    else s
  | none => s

/-- LINE_HELD (R95). -/
def execLineHeld (s : State) : Host.Outcome State Fault Refusal := whenRunning lineHeld s

/-- A line fault in force ended by a frame sent without error (R98, R103). -/
def clearFault (s : State) : State :=
  match s.line.mode with
  | .solo .lineFault => changeMode (modeByView s) .faultCleared s
  | .off | .joining | .banked | .alone | .solo .duplicateStation | .solo .noPeers => s

/-- The attempt over with every bit read back as sent: the characters the receiver has gathered are this
station's own (R98). -/
def ownFrameRead (a : Attempt) (s : State) : State :=
  let s1 := endAttempt (frameLevels a.bytes) s
  { s1 with line := { s1.line with receiver := { s1.line.receiver with own := true } } }

/-- An own frame sent (R98), and a WITHDRAWN held against it added to the queue (R100). -/
def finishAttempt (a : Attempt) (s : State) : State :=
  let s1 := tellSent a.frame (clearFault (restartPresence (dropHead (ownFrameRead a s))))
  match a.heldWithdrawn with
  | none => s1
  | some w => resumeTestAtTick (offer w s1)

/-- FRAME_SENT (R98). -/
def execFrameSent (s : State) : Host.Outcome State Fault Refusal :=
  whenRunning (fun t =>
    match t.line.attempt with
    | some a => finishAttempt a t
    | none => t) s

/-- A valid frame that this station did not send, judged by its number (R98). -/
def judgeFrame (f : Frame) (s : State) : State :=
  if f.number = (cfg s).station then hearDuplicate s else hearPeer f s

/-- A frame end (R91, R97, R98): in OFF the frame is discarded, one this station sent is not handed on, and
neither is one that fails a check. -/
def endFrame (g : Gathered) (s : State) : State :=
  if s.line.mode = .off ∨ g.own then s
  else
    match receivedFrame g.chars with
    | some f => judgeFrame f s
    | none => s

/-- Samples of the line taken by a receiver that watches, with the frame ends among them (R90, R91). The
samples of an attempt in progress are those of the attempt and come with its end. -/
def receive (samples : List Bool) (s : State) : State :=
  if watching s.line && s.line.attempt.isNone then
    let x := s.line.receiver.run samples
    x.2.foldl (fun t g => endFrame g t) { s with line := { s.line with receiver := x.1 } }
  else s

/-- FRAME_RECEIVED (R98): the levels sampled, and the recessive bit times after them. -/
def execFrameReceived (levels : List Bool) (quiet : Nat) (s : State) : Host.Outcome State Fault Refusal :=
  whenRunning (receive (levels ++ List.replicate quiet true)) s

/-- PRESENCE_DUE (R101): the timer stops at 200 and a PRESENCE is offered. -/
def execPresenceDue (s : State) : Host.Outcome State Fault Refusal :=
  whenRunning (fun t =>
    if t.line.presenceRunning ∧ Config.presenceTicks ≤ t.line.presenceTicks then
      offer presenceFrame { t with line := { t.line with
        presenceRunning := false, presenceTicks := Config.presenceTicks } }
    else t) s

/-- The ticks of this station's join slot (R102). -/
def slotTicks (s : State) : Nat := (cfg s).station * Config.joinSlotTicks

/-- The join slot has been reached in this window and its PRESENCE not yet offered (R102). -/
def slotReached (s : State) : Bool :=
  s.line.mode == .joining && s.line.joinRunning && !s.line.joinSlotDone && decide (slotTicks s ≤ s.line.joinTicks)

/-- JOIN_SLOT (R102): at the slot a PRESENCE is offered, once a window. -/
def execJoinSlot (s : State) : Host.Outcome State Fault Refusal :=
  whenRunning (fun t =>
    if slotReached t then offer presenceFrame { t with line := { t.line with joinSlotDone := true } }
    else t) s

/-- JOIN_WINDOW_END (R102): the mode by the duplicate mark, the view and the bank size. -/
def execJoinWindowEnd (s : State) : Host.Outcome State Fault Refusal :=
  whenRunning (fun t =>
    if t.line.mode = .joining ∧ t.line.joinRunning ∧ Config.joinWindowTicks ≤ t.line.joinTicks then
      changeMode (if t.line.duplicateMark then .solo .duplicateStation else modeByView t) .joinEnd
        { t with line := { t.line with joinRunning := false, joinTicks := Config.joinWindowTicks } }
    else t) s

/-! ## The Peer View's ageing (R111, R112) -/

/-- The entry of a number made SILENT where it is PRESENT. -/
def silenceEntry (station : Nat) (view : List PeerEntry) : List PeerEntry :=
  view.map fun e => if e.number = station ∧ e.status = .present then e.silenced else e

/-- The entry is PRESENT and its last-heard age has reached 600 (R111). -/
def PeerEntry.fallsSilent (e : PeerEntry) : Bool :=
  match e.status with
  | .present => decide (Config.silentTicks ≤ e.heardAge)
  | .silent _ => false

/-- The entry is SILENT and its silent age has reached 12,000 (R112). -/
def PeerEntry.expires (e : PeerEntry) : Bool :=
  match e.status with
  | .present => false
  | .silent n => decide (Config.removedTicks ≤ n)

/-- The view holds an entry of the number for which a test holds. -/
def hasEntryThat (test : PeerEntry → Bool) (station : Nat) (view : List PeerEntry) : Bool :=
  view.any fun e => e.number == station && test e

/-- PEER_SILENT (R111). A frame of the peer taken first has put the age to 0, and then the entry stays
PRESENT (R113). -/
def execPeerSilent (station : Nat) (s : State) : Host.Outcome State Fault Refusal :=
  whenRunning (fun t =>
    if hasEntryThat PeerEntry.fallsSilent station t.view then
      viewChange { t with view := silenceEntry station t.view }
    else t) s

/-- The removal of an entry, told to the Admission Unit and, when it was the last, to the Bank Line
Controller (R112). -/
def removeEntry (station : Nat) (s : State) : State :=
  let s1 := viewChange { s with view := s.view.filter (fun e => e.number != station) }
  if s1.view = [] then lastEntryRemoved s1 else s1

/-- PEER_REMOVED (R112). A frame of the peer taken first has made the entry PRESENT, which stays (R113). -/
def execPeerRemoved (station : Nat) (s : State) : Host.Outcome State Fault Refusal :=
  whenRunning (fun t =>
    if hasEntryThat PeerEntry.expires station t.view then removeEntry station t else t) s

end Sys2Proof.Machine
end

