-- ==== Sys2Proof/Machine/AdmissionCommands.lean ====
section
/-! DEFINITION. The Admission Unit's timer events (R120, R124 to R128, R136) and the Permit Outputs'
events (R143, R145, R149, R150). -/

namespace Sys2Proof.Machine

/-- ADMISSION_TEST (R124): the test at a tick. A test that a withdrawal in this tick has put off waits for
the next tick (R127). -/
def execAdmissionTest (s : State) : Host.Outcome State Fault Refusal :=
  whenRunning (fun t => if t.admission.testAtTick then t else tryClaim t) s

/-- The hold's end: the test once more with the frozen A, then the grant or the withdrawal (R126). -/
def holdEnd (s : State) : State :=
  match s.admission.claim with
  | .holding n u count =>
    if count < Config.holdTicks then s
    else
      match s.admission.pending.find? (fun p => p.step == n) with
      | some p => if admissionPasses s n (arbOf s u) then grant p s else withdrawClaim s
      | none => withdrawClaim s
  | .sending _ _ => s
  | .unannounced => s

/-- HOLD_EXPIRY (R126). -/
def execHoldExpiry (s : State) : Host.Outcome State Fault Refusal := whenRunning holdEnd s

/-- The motor-start spacing in ticks. -/
def spacingLimit (s : State) : Nat := (cfg s).spacing * Config.ticksPerSecond

/-- The heat ramp interval in ticks. -/
def rampLimit (s : State) : Nat := (cfg s).rampInterval * Config.ticksPerSecond

/-- A running timer stands at its limit. -/
def atLimit (timer : Option Nat) (limit : Nat) : Bool :=
  match timer with
  | none => false
  | some n => decide (limit ≤ n)

/-- SPACING_ELAPSED (R128): the timer that has reached the spacing stops as elapsed. A peer's TAKEN of DRUM
or AIR taken first has restarted it, and then it runs on (R139). -/
def execSpacingElapsed (s : State) : Host.Outcome State Fault Refusal :=
  whenRunning (fun t =>
    if atLimit t.admission.spacing (spacingLimit t) then
      { t with admission := { t.admission with spacing := none } }
    else t) s

/-- RAMP_ELAPSED (R128): the timer that has reached the ramp interval stops as elapsed. -/
def execRampElapsed (s : State) : Host.Outcome State Fault Refusal :=
  whenRunning (fun t =>
    if atLimit t.admission.ramp (rampLimit t) then
      { t with admission := { t.admission with ramp := none } }
    else t) s

/-- SHED_SETTLE_EXPIRY (R136): the timer becomes idle and the feeder overcommit test is made once. -/
def execShedSettleExpiry (s : State) : Host.Outcome State Fault Refusal :=
  whenRunning (fun t =>
    if atLimit t.admission.shedSettle Config.shedSettleTicks then
      overcommitTest { t with admission := { t.admission with shedSettle := none } }
    else t) s

/-- One second more of waiting for the request of a step, saturating (R120). -/
def StepRequest.olderAt (step : Nat) (p : StepRequest) : StepRequest :=
  if p.step = step ∧ Config.ticksPerSecond ≤ p.ageTicks then { p with age := satAdd p.age 1, ageTicks := 0 } else p

/-- WAITING_AGE_SECOND (R120). -/
def execWaitingAgeSecond (step : Nat) (s : State) : Host.Outcome State Fault Refusal :=
  whenRunning (fun t => { t with admission := { t.admission with
    pending := t.admission.pending.map (StepRequest.olderAt step) } }) s

/-! ## The heat period (R143, R145) -/

/-- Steps 2 to 4 of a period start (R145). -/
def newPeriod (s : State) : State :=
  let duty := heatCount s
  let p := { s.permits with
    duty := duty, blank := false, period := if duty = 0 then none else some 0 }
  { s with permits := { p with heat := heatLevel (cfg s) p } }

/-- The heat period in ticks. -/
def periodLimit (s : State) : Nat := (cfg s).heatPeriod * Config.ticksPerSecond

/-- The period counter would reach the heat period at the present tick, so that the period is over (R143). -/
def periodOver (s : State) : Bool :=
  match s.permits.period with
  | none => false
  | some n => decide (periodLimit s ≤ n + 1)

/-- HEAT_PERIOD_START (R145). -/
def execHeatPeriodStart (s : State) : Host.Outcome State Fault Refusal :=
  whenRunning (fun t => if periodOver t then newPeriod (releaseMarked t) else t) s

/-- The on-time of the current period. -/
def currentOnTime (s : State) : Nat := onTime (cfg s).heatPeriod s.permits.duty

/-- ON_TIME_END (R143): the period counter is no longer below the on-time. -/
def execOnTimeEnd (s : State) : Host.Outcome State Fault Refusal :=
  whenRunning (fun t =>
    if atLimit t.permits.period (currentOnTime t) then { t with permits := { t.permits with heat := false } }
    else t) s

/-! ## The door (R148 to R150) -/

/-- The raw DOOR level has differed from the door reading at two consecutive ticks (R148). -/
def doorChanged (p : Permits) : Bool := p.doorRaw != p.doorOpen && decide (Config.doorTicks ≤ p.doorCount)

/-- Step 5 of a door opening (R11, R149). -/
def seeDoor (s : State) : State :=
  if s.context.cycleState = .noCycle then s else { s with context := { s.context with doorSeen := true } }

/-- The opening recognised, in the order of R149. -/
def openDoor (s : State) : State :=
  let had := heldLen s
  let s1 := permitsDown { s with permits := { s.permits with doorOpen := true, doorCount := 0 } }
  let s2 := finishWaiters (releaseAtOnce 1 s1)
  let s3 := if 1 ≤ had then postStepLost 1 .door s2 else s2
  seeDoor (withdrawClaim (completeAllPending .doorOpen s3))

/-- DOOR_OPENING (R149). -/
def execDoorOpening (s : State) : Host.Outcome State Fault Refusal :=
  whenRunning (fun t => if doorChanged t.permits ∧ t.permits.doorRaw then openDoor t else t) s

/-- DOOR_CLOSING (R150). -/
def execDoorClosing (s : State) : Host.Outcome State Fault Refusal :=
  whenRunning (fun t =>
    if doorChanged t.permits ∧ t.permits.doorRaw = false then
      { t with permits := { t.permits with doorOpen := false, doorCount := 0 } }
    else t) s

end Sys2Proof.Machine
end

