-- ==== Sys2Proof/Machine/Timebase.lean ====
section
/-! DEFINITION. What the part does while no command waits: what follows at once from its state, and
otherwise one tick of the Timebase (R1), which advances every counter of the part and puts the commands
that fall due in the queue. The table has no row for a tick (log entry 7). -/

namespace Sys2Proof.Machine

/-- A command that falls due, or nothing. -/
def whenDue (due : Bool) (c : Instr) : List Instr := if due then [c] else []

/-- A running count one tick on. It stops at its limit, where it stands until the command of that moment
has been taken (log entry 7). -/
def tickCount (running : Bool) (limit n : Nat) : Nat := if running then min limit (n + 1) else n

/-- A running count that stands at its limit after this tick. -/
def countDue (running : Bool) (limit n : Nat) : Bool := running && decide (limit ≤ n + 1)

/-! ## Supply Monitor (R37, R39, R44, R45) -/

/-- The settle is under way in this supply state. -/
def settling (p : Supply) : Bool := p.supplyState == .starting || p.supplyState == .returning

/-- No pulse has arrived since the previous tick, and this is the third such interval. -/
def dropoutDue (p : Supply) : Bool := !p.pulseSeen && decide (p.absence + 1 = Config.absenceLimit)

/-- Mains is present at this tick (R37). -/
def presentAtTick (p : Supply) : Bool := p.pulseSeen || decide (p.absence + 1 < Config.absenceLimit)

/-- The settle count after this tick: the first tick leaves it at 0 (R39, R44). -/
def settleNext (p : Supply) : Nat :=
  if settling p && p.settleOpen && presentAtTick p then min Config.settleLimit (p.settle + 1) else p.settle

/-- The Supply Monitor at a tick. -/
def tickSupply (p : Supply) : Supply :=
  { p with
    pulseSeen := false
    absence := if p.pulseSeen then p.absence else min Config.absenceLimit (p.absence + 1)
    settle := settleNext p
    settleOpen := p.settleOpen || settling p
    lossTicks := tickCount p.lossRunning Config.ticksPerSecond p.lossTicks }

/-- The return confirmation that the settle count reaches at this tick. -/
def confirmationDue (p : Supply) : List Instr :=
  if settling p && decide (Config.settleLimit ≤ settleNext p) then
    if p.supplyState == .starting then [.returnConfirmation] else [.warmReturn]
  else []

/-! ## Gauge (R59, R62) -/

/-- The charging time goes on rising. -/
def chargingRuns (g : Gauge) : Bool := g.gaugeState == .charging && decide (g.chargingTime < Config.chargingLimit)

/-- The gauge at a tick. -/
def tickGauge (g : Gauge) : Gauge :=
  { g with
    chargingTicks := tickCount (chargingRuns g) Config.ticksPerSecond g.chargingTicks
    refreshTicks := tickCount (g.gaugeState == .armed) Config.refreshTicks g.refreshTicks }

/-! ## Context and journal (R12, R13, R23) -/

/-- The still timer and the freshness timer at a tick. -/
def tickContext (s : State) : Context :=
  let c := s.context
  { c with
    stillTicks := tickCount (stillRuns s) Config.ticksPerSecond c.stillTicks
    freshTicks := tickCount c.freshRunning (staleTicks s) c.freshTicks }

/-- The journal interval timer at a tick. -/
def tickJournal (s : State) : Journal :=
  let j := s.journal
  { j with intervalTicks := tickCount j.intervalRunning (intervalLimit s) j.intervalTicks }

/-! ## Line and view (R91, R95, R101, R102, R111, R112) -/

/-- The line rests recessive, as last sampled, before a receiver that watches and has not yet counted 12
idle bit times; a tick of it is 200 recessive bit times. -/
def lineRests (l : Line) : Bool :=
  watching l && l.attempt.isNone && l.receiver.level && decide (l.receiver.idleCount < Config.idleLimit)

/-- A frame waits at the head of the queue without the line showing 12 recessive bit times (R95). -/
def heldOff (s : State) : Bool :=
  (waitingFrame s).isSome && decide (s.line.receiver.idleCount < Config.idleLimit)

/-- The held-line time after this tick; it counts only while a frame is held off. -/
def heldNext (s : State) : Nat :=
  if heldOff s then min Config.heldTicks (s.line.receiver.heldTicks + 1) else 0

/-- The Bank Line Controller at a tick: the presence timer, the join window timer and the held-line time. -/
def tickLine (s : State) : Line :=
  let l := s.line
  { l with
    presenceTicks := tickCount l.presenceRunning Config.presenceTicks l.presenceTicks
    joinTicks := tickCount l.joinRunning Config.joinWindowTicks l.joinTicks
    receiver := { l.receiver with heldTicks := heldNext s } }

/-- An entry one tick older (R111, R112). -/
def PeerEntry.tick (e : PeerEntry) : PeerEntry :=
  match e.status with
  | .present => { e with heardAge := min Config.silentTicks (e.heardAge + 1) }
  | .silent n => { e with status := .silent (min Config.removedTicks (n + 1)) }

/-- The silence or removal of an entry that falls due. -/
def PeerEntry.due (e : PeerEntry) : List Instr :=
  match e.status with
  | .present => whenDue (decide (Config.silentTicks ≤ e.heardAge + 1)) (.peerSilent e.number)
  | .silent n => whenDue (decide (Config.removedTicks ≤ n + 1)) (.peerRemoved e.number)

/-! ## Admission Unit (R120, R124, R125, R127, R128, R136) -/

/-- A running timer one tick on, stopping at its limit. -/
def tickTimer (limit : Nat) (timer : Option Nat) : Option Nat := timer.map fun n => min limit (n + 1)

/-- A running timer that reaches its limit. -/
def timerDue (limit : Nat) (timer : Option Nat) : Bool :=
  match timer with
  | none => false
  | some n => decide (limit ≤ n + 1)

/-- A pending request one tick older. -/
def StepRequest.tick (p : StepRequest) : StepRequest :=
  { p with ageTicks := tickCount true Config.ticksPerSecond p.ageTicks }

/-- The hold count at a tick. -/
def Claim.tick : Claim → Claim
  | .holding n u count => .holding n u (min Config.holdTicks (count + 1))
  | .sending n u => .sending n u
  | .unannounced => .unannounced

/-- The hold expires at this tick. -/
def holdDue (c : Claim) : Bool :=
  match c with
  | .holding _ _ count => decide (Config.holdTicks ≤ count + 1)
  | .sending _ _ => false
  | .unannounced => false

/-- The Admission Unit at a tick. A test put off by a withdrawal resumes, unless the withdrawn CLAIM is
still under attempt (R127). -/
def tickAdmission (s : State) : Admission :=
  let a := s.admission
  { a with
    pending := a.pending.map StepRequest.tick
    claim := a.claim.tick
    spacing := tickTimer (spacingLimit s) a.spacing
    ramp := tickTimer (rampLimit s) a.ramp
    shedSettle := tickTimer Config.shedSettleTicks a.shedSettle
    testAtTick := a.testAtTick && withdrawnUnderAttempt s }

/-! ## Permit Outputs (R143, R145, R148) -/

/-- The period counter at a tick; at the period's end the new period is begun by its command. -/
def tickPeriod (s : State) : Option Nat :=
  s.permits.period.map fun n => if n + 1 < periodLimit s then n + 1 else n

/-- The period event that falls due. -/
def periodDue (s : State) : List Instr :=
  match s.permits.period with
  | none => []
  | some n =>
    if periodLimit s ≤ n + 1 then [.heatPeriodStart]
    else whenDue (decide (n + 1 = currentOnTime s)) .onTimeEnd

/-- The raw DOOR level read at this tick: the next of the coming levels, or the level as it stands. -/
def rawDoor (p : Permits) : Bool := p.doorInput.headD p.doorRaw

/-- The door count after this tick (R148). -/
def doorNext (p : Permits) : Nat :=
  if rawDoor p != p.doorOpen then min Config.doorTicks (p.doorCount + 1) else 0

/-- The Permit Outputs at a tick. -/
def tickPermits (s : State) : Permits :=
  { s.permits with
    period := tickPeriod s
    doorCount := doorNext s.permits
    doorRaw := rawDoor s.permits
    doorInput := s.permits.doorInput.tail }

/-- The door event that falls due (R148). -/
def doorDue (p : Permits) : List Instr :=
  whenDue (decide (Config.doorTicks ≤ doorNext p)) (if rawDoor p then .doorOpening else .doorClosing)

/-! ## The tick -/

/-- The commands that fall due at a tick, in the model's order (log entry 7): timers, then line and
view, then admission and permits, then the door, and the supply's own last. An attempt that nothing on
the line has ended is read back as sent, since a frame is shorter than a tick. -/
def dueCommands (s : State) : List Instr :=
  whenDue (countDue s.supply.lossRunning Config.ticksPerSecond s.supply.lossTicks) .lossTimerSecond
  ++ whenDue (countDue (stillRuns s) Config.ticksPerSecond s.context.stillTicks) .stillTimerSecond
  ++ whenDue (countDue s.context.freshRunning (staleTicks s) s.context.freshTicks) .freshnessExpiry
  ++ whenDue (countDue s.journal.intervalRunning (intervalLimit s) s.journal.intervalTicks) .journalInterval
  ++ whenDue (countDue (chargingRuns s.gauge) Config.ticksPerSecond s.gauge.chargingTicks)
      .chargingConversionStart
  ++ whenDue (countDue (s.gauge.gaugeState == .armed) Config.refreshTicks s.gauge.refreshTicks) .refreshStart
  ++ whenDue s.line.attempt.isSome .frameSent
  ++ whenDue (lineRests s.line) (.frameReceived [] Config.tickBits)
  ++ whenDue (heldOff s && decide (Config.heldTicks ≤ heldNext s)) .lineHeld
  ++ s.view.flatMap PeerEntry.due
  ++ s.admission.pending.flatMap (fun p =>
      whenDue (countDue true Config.ticksPerSecond p.ageTicks) (.waitingAgeSecond p.step))
  ++ whenDue (timerDue (spacingLimit s) s.admission.spacing) .spacingElapsed
  ++ whenDue (timerDue (rampLimit s) s.admission.ramp) .rampElapsed
  ++ whenDue (timerDue Config.shedSettleTicks s.admission.shedSettle) .shedSettleExpiry
  ++ periodDue s
  ++ whenDue (countDue s.line.presenceRunning Config.presenceTicks s.line.presenceTicks) .presenceDue
  ++ whenDue (countDue s.line.joinRunning Config.joinWindowTicks s.line.joinTicks) .joinWindowEnd
  ++ whenDue (decide (claimState s = .waitRoom)) .admissionTest
  ++ whenDue (holdDue s.admission.claim) .holdExpiry
  ++ doorDue s.permits
  ++ whenDue (dropoutDue s.supply) .dropout
  ++ confirmationDue s.supply

/-- One tick of the Timebase in a running part. -/
def tick (s : State) : State :=
  { s with
    pending := dueCommands s
    supply := tickSupply s.supply
    gauge := tickGauge s.gauge
    journal := tickJournal s
    context := tickContext s
    line := tickLine s
    view := s.view.map PeerEntry.tick
    admission := tickAdmission s
    permits := tickPermits s }

/-! ## What follows at once (R27, R31, R32, R91, R102, R154) -/

/-- The command that takes the head of the request queue into service. -/
def serviceCommand (r : Request) : Instr :=
  match requestKindOf r.kind with
  | some .configure => .configure
  | some .openCycle => .openCycle
  | some .requestStep => .requestStep
  | some .dropStep => .dropStep
  | some .hostStop => .hostStop
  | some .continueCycle => .continueCycle
  | some .closeCycle => .closeCycle
  | some .resumeAnswer => .resumeAnswer
  | none => .unknownKindServed

/-- An attempt of the head frame may begin (R91). -/
def attemptReady (s : State) : Bool :=
  (waitingFrame s).isSome && decide (s.line.receiver.idleCount = Config.idleLimit)

/-- What a running part does before the next tick, if anything. -/
def immediate (s : State) : Option Instr :=
  match s.port.inService, s.port.requests with
  | none, r :: _ => some (serviceCommand r)
  | _, _ =>
    if slotReached s then some .joinSlot
    else if attemptReady s then some .attemptStart
    else if s.journal.inFlight.isSome then some .writeComplete
    else none

/-- The part with an empty command queue: the recovery scan or a write under way ends, a request is
taken into service, the join slot is served, an attempt begins, or a tick passes; without core supply, and
in reset with the writer at rest, nothing happens. -/
def idle (s : State) : State :=
  match s.power with
  | .unpowered => s
  | .resetHeld => if s.journal.inFlight.isSome then { s with pending := [.writeComplete] } else s
  | .scanning => { s with pending := [.recoveryScan] }
  | .running =>
    match immediate s with
    | some c => { s with pending := [c] }
    | none => tick s

end Sys2Proof.Machine
end

