-- ==== Sys2Proof/Machine/Dispatch.lean ====
section
/-! DEFINITION. The commands of the table, each handed to its meaning. -/

namespace Sys2Proof.Machine

def exec (i : Instr) (s : State) : Host.Outcome State Fault Refusal :=
  match i with
  | .sendRequest mosi => Sys2Proof.Machine.execSendRequest mosi s
  | .takeEvent mosi => Sys2Proof.Machine.execTakeEvent mosi s
  | .writeProgress mosi => Sys2Proof.Machine.execWriteProgress mosi s
  | .readStatus mosi => Sys2Proof.Machine.execReadStatus mosi s
  | .configure => Sys2Proof.Machine.execConfigure s
  | .openCycle => Sys2Proof.Machine.execOpenCycle s
  | .requestStep => Sys2Proof.Machine.execRequestStep s
  | .dropStep => Sys2Proof.Machine.execDropStep s
  | .hostStop => Sys2Proof.Machine.execHostStop s
  | .continueCycle => Sys2Proof.Machine.execContinueCycle s
  | .closeCycle => Sys2Proof.Machine.execCloseCycle s
  | .resumeAnswer => Sys2Proof.Machine.execResumeAnswer s
  | .writeComplete => Sys2Proof.Machine.execWriteComplete s
  | .journalInterval => Sys2Proof.Machine.execJournalInterval s
  | .freshnessExpiry => Sys2Proof.Machine.execFreshnessExpiry s
  | .stillTimerSecond => Sys2Proof.Machine.execStillTimerSecond s
  | .coldStart => Sys2Proof.Machine.execColdStart s
  | .coreSupplyFail => Sys2Proof.Machine.execCoreSupplyFail s
  | .resetN lowMicroseconds => Sys2Proof.Machine.execResetN lowMicroseconds s
  | .pinStart => Sys2Proof.Machine.execPinStart s
  | .recoveryScan => Sys2Proof.Machine.execRecoveryScan s
  | .mainsZcPulse => Sys2Proof.Machine.execMainsZcPulse s
  | .dropout => Sys2Proof.Machine.execDropout s
  | .vholdReading reading => Sys2Proof.Machine.execVholdReading reading s
  | .lossTimerSecond => Sys2Proof.Machine.execLossTimerSecond s
  | .returnConfirmation => Sys2Proof.Machine.execReturnConfirmation s
  | .warmReturn => Sys2Proof.Machine.execWarmReturn s
  | .startupReadingEnd gaugeCounter => Sys2Proof.Machine.execStartupReadingEnd gaugeCounter s
  | .chargingConversionStart => Sys2Proof.Machine.execChargingConversionStart s
  | .chargingConversionEnd gaugeCounter => Sys2Proof.Machine.execChargingConversionEnd gaugeCounter s
  | .refreshStart => Sys2Proof.Machine.execRefreshStart s
  | .refreshEnd gaugeCounter => Sys2Proof.Machine.execRefreshEnd gaugeCounter s
  | .attemptStart => Sys2Proof.Machine.execAttemptStart s
  | .arbitrationLost bit => Sys2Proof.Machine.execArbitrationLost bit s
  | .bitError bit => Sys2Proof.Machine.execBitError bit s
  | .lineHeld => Sys2Proof.Machine.execLineHeld s
  | .frameSent => Sys2Proof.Machine.execFrameSent s
  | .frameReceived levels quiet => Sys2Proof.Machine.execFrameReceived levels quiet s
  | .presenceDue => Sys2Proof.Machine.execPresenceDue s
  | .joinSlot => Sys2Proof.Machine.execJoinSlot s
  | .joinWindowEnd => Sys2Proof.Machine.execJoinWindowEnd s
  | .peerSilent station => Sys2Proof.Machine.execPeerSilent station s
  | .peerRemoved station => Sys2Proof.Machine.execPeerRemoved station s
  | .admissionTest => Sys2Proof.Machine.execAdmissionTest s
  | .holdExpiry => Sys2Proof.Machine.execHoldExpiry s
  | .spacingElapsed => Sys2Proof.Machine.execSpacingElapsed s
  | .rampElapsed => Sys2Proof.Machine.execRampElapsed s
  | .shedSettleExpiry => Sys2Proof.Machine.execShedSettleExpiry s
  | .waitingAgeSecond step => Sys2Proof.Machine.execWaitingAgeSecond step s
  | .heatPeriodStart => Sys2Proof.Machine.execHeatPeriodStart s
  | .onTimeEnd => Sys2Proof.Machine.execOnTimeEnd s
  | .doorOpening => Sys2Proof.Machine.execDoorOpening s
  | .doorClosing => Sys2Proof.Machine.execDoorClosing s
  | .unknownKindServed => Sys2Proof.Machine.execUnknownKindServed s

end Sys2Proof.Machine
end

