-- ==== Sys2Proof/Safety.lean ====
section
/-! DEFINITION. What the statements about the part are made of: the blocks of the state and their
frames, and the invariants the manual states of the whole part. -/

namespace Sys2Proof.Machine

/-! ## Frames -/

/-- The blocks of the state, for saying which of them a command leaves alone. -/
inductive Block where
  | pending | power | supply | gauge | journal | context | exchange | assessor | line | view | admission
  | permits | port | settings | freeIndex
  deriving DecidableEq, Repr

/-- A block stands in `t` as it stands in `s`. -/
def Block.Same (s t : State) : Block → Prop
  | .pending => t.pending = s.pending
  | .power => t.power = s.power
  | .supply => t.supply = s.supply
  | .gauge => t.gauge = s.gauge
  | .journal => t.journal = s.journal
  | .context => t.context = s.context
  | .exchange => t.exchange = s.exchange
  | .assessor => t.assessor = s.assessor
  | .line => t.line = s.line
  | .view => t.view = s.view
  | .admission => t.admission = s.admission
  | .permits => t.permits = s.permits
  | .port => t.port = s.port
  | .settings => t.settings = s.settings
  | .freeIndex => t.freeIndex = s.freeIndex

/-- Every block other than those named is unchanged. -/
def KeepsAllBut (changed : List Block) (s t : State) : Prop := ∀ b, b ∉ changed → b.Same s t

/-- The line as it was, but for the frames queued, the attempt and the failure count. -/
def OnlyFrames (s t : State) : Prop :=
  t.line = { s.line with
    queue := t.line.queue, attempt := t.line.attempt, failures := t.line.failures }

/-! ## What a served request and a queued record leave -/

/-- The request at the head of a running part's queue, with no other in service: its kind is `k`, mains
is not away, and the part is configured unless the request is CONFIGURE (R154). -/
structure Served (k : RequestKind) (s : State) (r : Request) (rest : List Request) : Prop where
  running : s.power = .running
  free : s.port.inService = none
  head : s.port.requests = r :: rest
  kind : r.kind = k.code
  mains : s.supply.supplyState = .starting ∨ s.supply.supplyState = .onMains
  configured : k ≠ .configure → s.settings ≠ none

/-- The port after the head request has been completed with one result and nothing else posted. -/
def answered (r : Request) (rest : List Request) (result : Result) (settings : BitVec 24) (p : Port) : Port :=
  { p with
    requests := rest
    events := p.events ++ [.completion r.tag r.kind result r.stepByte settings] }

/-- The completions of step requests, in their order (R122, R149). -/
def stepCompletions (result : Result) (l : List StepRequest) : List Event :=
  l.map fun p => .completion p.tag RequestKind.requestStep.code result (byte8 p.step) 0

/-- The DONE completions of release waiters, in their order (R133). -/
def waiterCompletions (l : List Waiter) : List Event :=
  l.map fun w => .completion w.tag RequestKind.dropStep.code .done (byte8 w.step) 0

/-- The command that takes a request of a kind into service. -/
def RequestKind.command : RequestKind → Instr
  | .configure => .configure | .openCycle => .openCycle | .requestStep => .requestStep
  | .dropStep => .dropStep | .hostStop => .hostStop | .continueCycle => .continueCycle
  | .closeCycle => .closeCycle | .resumeAnswer => .resumeAnswer

/-- A record formed from a context, its progress and the gauge (R17, R20). -/
def recordOf (kind : RecordKind) (why : Reason) (c : Context) (p : Progress) (g : Gauge) : Snapshot where
  kind := kind
  cycleState := c.cycleState
  progress := p
  stale := c.stale
  aged := c.aged
  estimated := (c.plan.map (·.estimated)).getD false
  still := c.still
  n0 := recordN0 g
  reason := why
  base := c.base

/-- The context in NO_CYCLE, with what NO_CYCLE does not set: whether the still timer has been started
since the last reset or loss, and the freshness count (R2, R12, R13). -/
def closedContext (c : Context) : Context :=
  { Context.initial with stillStarted := c.stillStarted, freshTicks := c.freshTicks }

/-- The journal once a record has been queued in a state (R25, R26). -/
def queuedJournal (body : Snapshot) (s : State) : Journal :=
  if s.journal.inFlight = none ∧ s.supply.supplyState ≠ .dormant then
    { s.journal with
      inFlight := some ⟨s.journal.nextSlot, makeRecord s.journal.nextSeq body⟩
      nextSlot := s.journal.nextSlot + 1
      nextSeq := s.journal.nextSeq + 1
      waiting := none }
  else { s.journal with waiting := some body }

/-- The port after one event other than a completion has been offered in a state (R159). -/
def postedPort (e : Event) (s : State) : Port :=
  if outstanding s + eventsWaiting s < 16 then { s.port with events := s.port.events ++ [e] }
  else { s.port with eventsLost := true }

/-- A NEWEST buffer made JOURNAL_HELD, and the previous JOURNAL_HELD buffer FREE (R17). -/
def Buffer.handedOver : Buffer → Buffer
  | .newest p => .journalHeld p
  | .journalHeld _ => .free
  | .hostWrite => .hostWrite
  | .free => .free

/-- ESTIMATED as R73 forms it: an off-time OVER or UNKNOWN, the estimate mark, or an S of 65,535. -/
def estimatedBy (off : OffTime) (s : State) : Bool :=
  decide (off = .over ∨ off = .unknown) || s.assessor.estimateMark || decide (s.context.still = 65535)

/-- What PLAN and PLAN_FINAL carry beside the plan: the flags of a context whose cycle has figures `p`, and
the stop reason for a HOLD of reason STOPPED (R2, R79). -/
def planReport (plan : Plan) (c : Context) (p : Progress) : PlanReport where
  plan := plan
  stale := c.stale
  aged := c.aged
  doorSeen := c.doorSeen
  cycleId := p.cycleId
  stopReason := match plan.action with
    | .hold _ .stopped => c.stopReason
    | _ => none

/-- A row of the plan table: its action, its urgency base and its heat, cool, relief and guard figures. -/
structure PlanRow where
  action : RunAction
  base : Nat
  heat : Option Nat := none
  cool : Option Nat := none
  relief : Option Nat := none
  guardFig : Option Nat := none

/-- The figures of a row as a plan record holds them. -/
def PlanRow.figures (r : PlanRow) : Figures := ⟨r.heat, r.cool, r.relief, r.guardFig⟩

/-- The row of the plan table for the context's figures `p` and a still time S: R75's rows with the bases
of R78 and the reheat extension of R74; none is the FINISH row. -/
def tableRow (c : Settings) (p : Progress) (S : Nat) : Option PlanRow :=
  let rx := min (S * c.reheatFactor / 16) c.reheatCap
  match p.phase with
  | .heat => some
      { action := .resumeHeat, base := 8, heat := some (min (p.remaining + rx) 65535), cool := some p.cool,
        guardFig := some p.guardLen }
  | .cool =>
    if S ≤ c.creaseTime ∧ S < p.remaining then some
      { action := .resumeCool, base := 10, cool := some (p.remaining - S), guardFig := some p.guardLen }
    else if S ≤ c.creaseTime then some { action := .resumeGuard, base := 6, guardFig := some p.guardLen }
    else some { action := .relief, base := 12, relief := some c.reliefTime, guardFig := some p.guardLen }
  | .guarding =>
    if p.remaining ≤ S then none
    else if S ≤ c.creaseTime then some { action := .resumeGuard, base := 6, guardFig := some (p.remaining - S) }
    else some { action := .relief, base := 12, relief := some c.reliefTime, guardFig := some (p.remaining - S) }

/-- The assessment of an INTERRUPTED or STOPPED cycle whose figures are `p`, from a state `s` whose port
stands as `port`: S takes the off-time (R73), and a plan is formed from the table's row, held by the first
of STOPPED, STALE and DOOR that applies (R75, R77, R79), and posted (R80). A plan other than FINISH becomes
the current plan and awaits an answer in INTERRUPTED alone; a FINISH closes the cycle with CLOSE (FINISHED). -/
def Assessed (c : Settings) (source : OffSource) (off : OffTime) (carried : Nat) (p : Progress)
    (port : Port) (s t : State) : Prop :=
  let still := match off with
    | .seconds n => min 65535 (s.context.still + (n + carried))
    | .over => 65535
    | .unknown => 65535
  let after : Context := { s.context with still := still }
  let planOf : PlanAction → Option Nat → Figures → Option Nat → Plan := fun action reheat figures base =>
    { action := action, source := source, offTime := off, still := some still, reheat := reheat,
      figures := figures, aged := s.context.aged, estimated := estimatedBy off s,
      gaugeFlag := decide (off = .unknown), base := base, stage := .provisional }
  let finish : Plan := planOf .finish none ⟨none, none, none, none⟩ none
  (∀ row, tableRow c p still = some row →
    let plan := planOf
      (if s.context.cycleState = .stopped then .hold row.action .stopped
        else if s.context.stale then .hold row.action .stale
        else if s.permits.doorOpen then .hold row.action .door
        else .run row.action)
      (some (min (still * c.reheatFactor / 16) c.reheatCap)) row.figures (some row.base)
    t.context = { after with plan := some plan }
    ∧ t.assessor.awaiting = decide (s.context.cycleState = .interrupted)
    ∧ t.assessor.estimateMark = s.assessor.estimateMark ∧ t.assessor.stage = .provisional
    ∧ t.exchange = s.exchange
    ∧ t.journal = { s.journal with
        intervalRunning := t.journal.intervalRunning, intervalTicks := t.journal.intervalTicks }
    ∧ t.port = postedPort (.plan (planReport plan after p)) { s with port := port })
  ∧ (tableRow c p still = none →
    t.context = closedContext s.context
    ∧ t.assessor.awaiting = false ∧ t.assessor.estimateMark = false ∧ t.assessor.stage = .provisional
    ∧ t.exchange = s.exchange.mapBuffers Buffer.emptied
    ∧ t.journal = { queuedJournal
        (recordOf .closed (.close .finished) { after with plan := some finish } p t.gauge) s with
          intervalRunning := t.journal.intervalRunning, intervalTicks := t.journal.intervalTicks }
    ∧ t.port = postedPort (.plan (planReport finish after p)) { s with port := port })

/-! ## Claims, releases and the entry into SOLO -/

/-- A claim for a step fits at precedence A (R123). A demand of 0 is tested like any other, against the words
of R158 that such a step always fits: the model's reading (log entry 28). -/
def Fits (s : State) (step a : Nat) : Prop :=
  let claimed := fun (delta : PeerClaim → Nat) =>
    (((peerClaims s).filter (fun c => c.arb < a)).map delta).sum
  ownFeeder s + (s.view.map (·.feeder)).sum + claimed (·.feederDelta) + stepFeeder (cfg s) step
      ≤ (cfg s).feederLimit
  ∧ (step = 2 →
      ownDuct s + (s.view.map (·.duct)).sum + claimed (·.ductDelta) + (cfg s).airDuct ≤ (cfg s).ductLimit)

/-- The admission test for a step at precedence A (R124). -/
def TestPasses (s : State) (step a : Nat) : Prop :=
  s.line.mode ≠ .off ∧ s.line.mode ≠ .joining
  ∧ (step = 1 ∨ heldUnmarked s (step - 1) = true)
  ∧ Fits s step a
  ∧ (step ≤ 2 → ∀ n, s.admission.spacing = some n → (cfg s).spacing * 100 ≤ n)
  ∧ (3 ≤ step → (∀ n, s.admission.ramp = some n → (cfg s).rampInterval * 100 ≤ n)
      ∧ s.admission.shedSettle = none)
  ∧ ((∃ cause, s.line.mode = .solo cause) → step ≤ 2 + (cfg s).soloCap)

/-- A frame about one step, with the step's demands (R93). -/
def frameOfStep (kind : FrameKind) (step : Nat) (s : State) : QueuedFrame :=
  ⟨kind, step, stepFeeder (cfg s) step, stepDuct (cfg s) step, false⟩

/-- A frame other than a PRESENCE offered to the transmit queue of a line (R99): not added in OFF; added at
the tail while fewer than four frames are queued; else put in the place of the last queued PRESENCE or RELEASED
that is not under attempt, where a head that leaves takes its failure count with it (R95). -/
def FrameOffered (f : QueuedFrame) (l l' : Line) : Prop :=
  let gives := fun g : QueuedFrame => g.kind = .presence ∨ g.kind = .released
  (l.mode = .off → l' = l)
  ∧ (l.mode ≠ .off → l.queue.length < 4 → l' = { l with queue := l.queue ++ [f] })
  ∧ (∀ before g after, l.mode ≠ .off → 4 ≤ l.queue.length → l.queue = before ++ g :: after → gives g →
      (∀ h ∈ after, ¬ gives h) → (before = [] → l.attempt = none) →
      l' = { l with
        queue := before ++ f :: after
        failures := if before = [] then 0 else l.failures })

/-- A WITHDRAWN settled as R100 says: held against a CLAIM under attempt, cancelled out by a CLAIM still
queued, which leaves the queue, else offered. -/
def FrameWithdrawn (w : QueuedFrame) (l l' : Line) : Prop :=
  let noClaimTried := ∀ a, l.attempt = some a → a.frame.kind ≠ .claim
  (∀ a, l.attempt = some a → a.frame.kind = .claim →
      l' = { l with attempt := some { a with heldWithdrawn := some w } })
  ∧ (noClaimTried → (∃ f ∈ l.queue, f.kind = .claim) →
      l' = { l with
        queue := l.queue.filter (fun f => f.kind != .claim)
        failures := if (l.queue.head?.map (·.kind)) = some .claim then 0 else l.failures })
  ∧ (noClaimTried → (∀ f ∈ l.queue, f.kind ≠ .claim) → FrameOffered w l l')

/-- The frame of a claim that goes (R127): the WITHDRAWN of a claim announced in `s`, and none without one. -/
def WithdrawalFrame (s : State) (l l' : Line) : Prop :=
  (announcedStep s = none → l' = l)
  ∧ (∀ n, announcedStep s = some n → FrameWithdrawn (frameOfStep .withdrawn n s) l l')

/-- The frames of a release of every step of `s` from `low` up, by which its claim goes too (R93, R132 to R134,
R127): one RELEASED with the summed deltas and the highest step released, or step 0 for all of them, where a
step is held there; then the claim's WITHDRAWN. -/
def ReleaseFrames (low : Nat) (s : State) (l l' : Line) : Prop :=
  let released : QueuedFrame := ⟨.released, if low = 1 then 0 else heldLen s,
    sumFeeder (cfg s) low (heldLen s), sumDuct (cfg s) low (heldLen s), false⟩
  ∃ between : Line,
    (heldLen s < low → between = l)
    ∧ (low ≤ heldLen s → FrameOffered released l between)
    ∧ WithdrawalFrame s between l'

/-- The announced claim for a step withdrawn (R127): its frozen urgency released, its test put off to the
next tick while the step is pending, and its WITHDRAWN frame settled. -/
def ClaimWithdrawn (step : Nat) (s t : State) : Prop :=
  t.admission = { s.admission with
      claim := .unannounced, testAtTick := s.admission.testAtTick || isPending s step }
  ∧ FrameWithdrawn (frameOfStep .withdrawn step s) s.line t.line
  ∧ OnlyFrames s t
  ∧ KeepsAllBut [.admission, .line] s t

/-- The claim withdrawn if a condition on it holds, and otherwise nothing changed. -/
def WithdrawnWhen (bad : Nat → Prop) (s t : State) : Prop :=
  (∀ n, announcedStep s = some n → bad n → ClaimWithdrawn n s t)
  ∧ ((∀ n, announcedStep s = some n → ¬ bad n) → t = s)

/-- The duct overcommit test (R137): the mark with one OVERCOMMIT event an episode, or the mark cleared. -/
def DuctTested (s t : State) : Prop :=
  let total := ownDuct s + (s.view.map (·.duct)).sum
  (total ≤ (cfg s).ductLimit → t = { s with admission := { s.admission with ductEpisode := false } })
  ∧ ((cfg s).ductLimit < total → s.admission.ductEpisode = true → t = s)
  ∧ ((cfg s).ductLimit < total → s.admission.ductEpisode = false → t = { s with
      admission := { s.admission with ductEpisode := true }
      port := postedPort (.overcommit total (cfg s).ductLimit) s })

/-- The station sheds at a feeder overcommit test (R135). -/
def MustShed (s : State) : Prop :=
  (cfg s).feederLimit < ownFeeder s + (s.view.map (·.feeder)).sum ∧ 3 ≤ heldLen s
  ∧ ∀ e ∈ s.view, e.status = .present → 3 ≤ e.prefixLen →
      arbitrationByte e.urgency e.number < arbitrationByte (urgency s) (cfg s).station

/-- The top held heat step shed (R135, R146): its release with the forced drop of the heat output, its
RELEASED frame, the step put back with its tag and an age of 0 if it carried no mark and there is room, the
pending requests cancelled as orphans if it was not, the waiters of the released step completed DONE, the
claim withdrawn, STEP_LOST, and the settle from 0. That a waiter for a lower marked step waits on is the model's
reading of R133 and R134 (log entry 15). -/
def ShedStep (s t : State) : Prop :=
  let top := heldLen s
  ∀ h, s.admission.held.getLast? = some h →
    let back := h.mark = false ∧ outstanding s < 8 ∧ outstanding s + eventsWaiting s < 16
    let left : Admission := { s.admission with
      held := s.admission.held.take (top - 1)
      pending := if back then ⟨top, h.tag, 0, 0⟩ :: s.admission.pending else []
      claim := .unannounced
      waiters := s.admission.waiters.filter (fun w => w.step ≤ top - 1)
      shedSettle := some 0
      testAtTick := t.admission.testAtTick }
    t.admission = left
    ∧ (t.admission.testAtTick = true ↔ s.admission.testAtTick = true
        ∨ (back ∧ ∃ n, announcedStep s = some n))
    ∧ t.permits = { s.permits with
        heat := false, duty := top - 3, period := if top = 3 then none else s.permits.period,
        blank := decide (top ≠ 3) }
    ∧ t.port = postedPort (.stepLost top .shed (top - 1))
        { s with
          admission := left
          port := { s.port with events := s.port.events
            ++ (if back then [] else stepCompletions .cancelled s.admission.pending)
            ++ waiterCompletions (s.admission.waiters.filter (fun w => top - 1 < w.step)) } }
    ∧ ReleaseFrames top s s.line t.line
    ∧ OnlyFrames s t
    ∧ KeepsAllBut [.admission, .permits, .line, .port] s t

/-- The line mode made SOLO from another mode, with its LINE event (R103), and the entry's effects (R134,
R138): the heat steps held above the solo heat cap released with the forced drop of the heat output, their
waiters completed DONE, one RELEASED frame, STEP_LOST, the pending requests cancelled as orphans and the claim
withdrawn; without such a step, a claim for a step above the cap withdrawn. That a waiter for a marked step at or
below the cap waits on is the model's reading of R133 and R134 (log entry 15). -/
def SoloEntered (cause : SoloCause) (why : LineCause) (s t : State) : Prop :=
  let cap := 2 + (cfg s).soloCap
  let told : Port := postedPort (.line (.solo cause) why) s
  let moved : State := { s with port := told, line := { s.line with mode := .solo cause } }
  let left := s.admission.waiters.filter (fun w => w.step ≤ cap)
  let lost : Port := postedPort (.stepLost (cap + 1) .soloCap cap) { s with
    admission := { s.admission with waiters := left }
    port := { told with
      events := told.events ++ waiterCompletions (s.admission.waiters.filter (fun w => cap < w.step)) } }
  (heldLen s ≤ cap → WithdrawnWhen (fun n => cap < n) moved t)
  ∧ (cap < heldLen s →
      t.admission = { s.admission with
        held := s.admission.held.take cap, pending := [], claim := .unannounced, waiters := left }
      ∧ t.permits = { s.permits with
          heat := false, duty := (cfg s).soloCap
          period := if (cfg s).soloCap = 0 then none else s.permits.period
          blank := decide ((cfg s).soloCap ≠ 0) }
      ∧ t.port = { lost with events := lost.events ++ stepCompletions .cancelled s.admission.pending }
      ∧ ReleaseFrames (cap + 1) s moved.line t.line
      ∧ OnlyFrames moved t
      ∧ KeepsAllBut [.admission, .permits, .port, .line] s t)

/-- The commands that arise in a running part alone (R32, R51, R52): all but the transactions, the
completion of a write, the starts and ends of operation, and the two supply inputs. -/
def needsRunning : Instr → Bool
  | .sendRequest _ | .takeEvent _ | .writeProgress _ | .readStatus _ | .writeComplete | .coldStart
  | .coreSupplyFail | .resetN _ | .pinStart | .recoveryScan | .mainsZcPulse | .vholdReading _ => false
  | .configure | .openCycle | .requestStep | .dropStep | .hostStop | .continueCycle | .closeCycle
  | .resumeAnswer | .journalInterval | .freshnessExpiry | .stillTimerSecond | .dropout
  | .lossTimerSecond | .returnConfirmation | .warmReturn | .startupReadingEnd _
  | .chargingConversionStart | .chargingConversionEnd _ | .refreshStart | .refreshEnd _
  | .attemptStart | .arbitrationLost _ | .bitError _ | .lineHeld | .frameSent | .frameReceived _ _
  | .presenceDue | .joinSlot | .joinWindowEnd | .peerSilent _ | .peerRemoved _ | .admissionTest
  | .holdExpiry | .spacingElapsed | .rampElapsed | .shedSettleExpiry | .waitingAgeSecond _
  | .heatPeriodStart | .onTimeEnd | .doorOpening | .doorClosing | .unknownKindServed => true

/-! ## The two limits (R155) -/

/-- Outstanding requests never exceed 8, and outstanding requests plus queued events never exceed 16. -/
def WithinLimits (s : State) : Prop := outstanding s ≤ 8 ∧ outstanding s + eventsWaiting s ≤ 16

/-! ## The Progress Exchange (R14, R17, R23) -/

/-- How many buffers satisfy a test. -/
def Exchange.count (test : Buffer → Bool) (e : Exchange) : Nat := ([e.a, e.b, e.c].filter test).length

/-- The buffer is HOST_WRITE. -/
def Buffer.isHostWrite : Buffer → Bool
  | .hostWrite => true
  | .newest _ | .journalHeld _ | .free => false

/-- The buffer is NEWEST. -/
def Buffer.isNewest : Buffer → Bool
  | .newest _ => true
  | .hostWrite | .journalHeld _ | .free => false

/-- The buffer is JOURNAL_HELD. -/
def Buffer.isJournalHeld : Buffer → Bool
  | .journalHeld _ => true
  | .hostWrite | .newest _ | .free => false

/-- The roles (R14), and a NEWEST buffer only in RUNNING and then equal to the context's fields (R17,
R23); none exists while the recovery scan runs. -/
structure ExchangeSound (s : State) : Prop where
  oneHostWrite : s.exchange.count Buffer.isHostWrite = 1
  atMostOneNewest : s.exchange.count Buffer.isNewest ≤ 1
  atMostOneJournalHeld : s.exchange.count Buffer.isJournalHeld ≤ 1
  newestIsContext : ∀ p, s.exchange.newest? = some p →
    s.power ≠ .scanning ∧ s.context.cycleState = .running ∧ s.context.progress = some p

/-! ## The cycle (R2, R9, R12, R71) -/

/-- The context's fields by cycle state: S is 0 in RUNNING, every field at its NO_CYCLE value in
NO_CYCLE, the cycle's own fields present otherwise, a stop reason exactly in STOPPED, a plan only where
one can stand and always in RESUMING, an answer awaited in INTERRUPTED alone. -/
structure CycleSound (s : State) : Prop where
  runningStill : s.context.cycleState = .running → s.context.still = 0
  closed : s.context.cycleState = .noCycle →
    s.context.progress = none ∧ s.context.still = 0 ∧ s.context.base = 0 ∧ s.context.stale = false
      ∧ s.context.aged = false ∧ s.context.doorSeen = false
  opened : s.context.cycleState ≠ .noCycle → s.context.progress.isSome = true
  stopReason : s.context.stopReason.isSome = true ↔ s.context.cycleState = .stopped
  planPlace : s.context.plan.isSome = true →
    s.context.cycleState = .interrupted ∨ s.context.cycleState = .resuming ∨ s.context.cycleState = .stopped
  resumingPlan : s.context.cycleState = .resuming → s.context.plan.isSome = true
  awaitingPlace : s.assessor.awaiting = true →
    s.power ≠ .scanning ∧ s.context.cycleState = .interrupted ∧ s.context.plan.isSome = true
  markPlace : s.context.cycleState = .running → s.assessor.estimateMark = false

/-! ## The journal writer (R25, R28, R31) -/

/-- A record waits only behind a record in flight or in DORMANT, and only in a running part. -/
def WriterSound (s : State) : Prop :=
  s.journal.waiting ≠ none →
    s.power = .running ∧ (s.journal.inFlight ≠ none ∨ s.supply.supplyState = .dormant)

/-! ## Held and pending steps, permits and the door (R119, R121, R141 to R143, R149, R150) -/

/-- The held steps and the pending list: at most six steps are held, a release mark stands on heat steps
alone and on every step above a marked one, and the pending requests are in rising order of step, each
for a step from 1 to 6 above those held. -/
structure StepsSound (s : State) : Prop where
  heldSix : heldLen s ≤ 6
  marksOnHeat : ∀ h ∈ s.admission.held.take 2, h.mark = false
  marksUpward : s.admission.held.Pairwise (fun h k => h.mark = true → k.mark = true)
  pendingRising : s.admission.pending.Pairwise (fun p q => p.step < q.step)
  pendingAbove : ∀ p ∈ s.admission.pending, heldLen s < p.step ∧ p.step ≤ 6

/-- The permits and the door: while the part is not held in reset DRUM_PERMIT and AIR_PERMIT follow the
held steps, and in reset all permits are low; HEAT_PERMIT is high only with both of them high, the door
closed, the duty 1 or more and no blank; the duty never exceeds the held heat count and is 1 or more while
heat is held; the counter runs exactly while the duty is 1 or more; the blank mark is clear at duty 0;
an open door leaves nothing held and nothing pending. -/
structure PermitsSound (s : State) : Prop where
  follow : s.power ≠ .resetHeld →
    s.permits.drum = decide (1 ≤ heldLen s) ∧ s.permits.air = decide (2 ≤ heldLen s)
  resetLow : s.power = .resetHeld → s.permits.drum = false ∧ s.permits.air = false ∧ s.permits.heat = false
  interlock : s.permits.heat = true →
    s.permits.drum = true ∧ s.permits.air = true ∧ s.permits.doorOpen = false ∧ s.permits.blank = false
      ∧ 1 ≤ s.permits.duty
  dutyHeld : s.permits.duty ≤ heatCount s
  dutyStarts : 1 ≤ heatCount s → 1 ≤ s.permits.duty
  counter : s.permits.period = none ↔ s.permits.duty = 0
  blankDuty : s.permits.blank = true → s.permits.duty ≠ 0
  door : s.permits.doorOpen = true → s.admission.held = [] ∧ s.admission.pending = []

/-- Steps and permits together. -/
def LoadsSound (s : State) : Prop := StepsSound s ∧ PermitsSound s

/-! ## The line and the view (R91, R99, R100, R103, R105 to R107) -/

/-- The receiver's counts (R90, R91, R95): the idle count is at most 12, at most twelve characters are
gathered and fewer while one is under way, which has at most eight data bits so far, and the held-line time is at
most 10 ticks. -/
structure Receiver.Sound (r : Receiver) : Prop where
  idle : r.idleCount ≤ 12
  gathered : r.chars.length ≤ 12
  underWay : ∀ bits, r.character = some bits → r.chars.length < 12 ∧ bits.length ≤ 8
  held : r.heldTicks ≤ 10

/-- The receiver between frames: outside a character on a recessive line, with nothing gathered (R91). -/
structure Receiver.AtRest (r : Receiver) : Prop where
  level : r.level = true
  outside : r.character = none
  chars : r.chars = []
  long : r.long = false
  own : r.own = false

/-- The receiver after a frame's end and some recessive bit times more, `quiet` of them after the last stop
bit in all (R91). -/
def Receiver.rested (quiet : Nat) (r : Receiver) : Receiver where
  level := true
  character := none
  chars := []
  long := false
  own := false
  idleCount := min 12 quiet
  heldTicks := if 12 ≤ quiet then 0 else r.heldTicks

/-- A view entry's ranges; a SILENT entry holds no claim (R106, R111). -/
structure PeerEntry.Sound (own : Nat) (e : PeerEntry) : Prop where
  number : e.number < 16 ∧ e.number ≠ own
  totals : e.feeder ≤ 4095 ∧ e.duct ≤ 4095 ∧ e.prefixLen ≤ 6 ∧ e.urgency ≤ 15
  silentClaim : e.status ≠ .present → e.claim = none

/-- The line mode is other than OFF only in ON_MAINS and configured; in OFF the view is empty and the
queue holds at most the LEAVING frame; at most four frames are queued; an attempt is of the head frame,
and a WITHDRAWN is held only against a CLAIM; the failure count is at most 8; the view has one entry per
number in rising order, none with the station's own number; the receiver's counts are in range. -/
structure LineSound (s : State) : Prop where
  onMains : s.line.mode ≠ .off → s.supply.supplyState = .onMains ∧ s.settings.isSome = true
  offView : s.line.mode = .off → s.view = []
  offQueue : s.line.mode = .off → s.line.queue.length ≤ 1 ∧ ∀ f ∈ s.line.queue, f.leaving = true
  queueFour : s.line.queue.length ≤ 4
  attemptHead : ∀ a, s.line.attempt = some a → s.line.queue.head? = some a.frame
  heldClaim : ∀ a, s.line.attempt = some a → a.heldWithdrawn ≠ none → a.frame.kind = .claim
  failuresEight : s.line.failures ≤ 8
  viewRising : s.view.Pairwise (fun e f => e.number < f.number)
  viewEntries : ∀ e ∈ s.view, e.Sound (cfg s).station
  receiver : s.line.receiver.Sound

/-! ## The claim (R122, R124, R126) -/

/-- An announced claim is for the lowest pending step, whose prerequisite is held without a release mark,
in a line mode that permits claims; whatever is held is held in such a mode and in RUNNING; requests are
pending in RUNNING and RESUMING alone (R121); nothing is held or pending while the recovery scan runs. -/
structure ClaimSound (s : State) : Prop where
  claimed : ∀ n, announcedStep s = some n →
    (s.admission.pending.head?.map (·.step)) = some n ∧ prerequisiteHeld s n = true
      ∧ s.line.mode.claims = true
  heldMode : s.admission.held ≠ [] → s.line.mode.claims = true
  heldCycle : s.admission.held ≠ [] → s.context.cycleState = .running
  pendingCycle : s.admission.pending ≠ [] →
    s.context.cycleState = .running ∨ s.context.cycleState = .resuming
  scanEmpty : s.power = .scanning → s.admission.held = [] ∧ s.admission.pending = []
  chained : ∀ p ∈ s.admission.pending, prerequisiteHeld s p.step = true ∨ isPending s (p.step - 1) = true

/-- The demands of the held steps stay within the configured bank limits (R126). -/
def DemandWithinLimits (s : State) : Prop :=
  ownFeeder s ≤ (cfg s).feederLimit ∧ ownDuct s ≤ (cfg s).ductLimit

/-! ## The ring of records (R26, R30, R33, R34) -/

/-- How far behind the writer's place a slot lies: 1 for the slot before the next slot, 32 for the next
slot itself. -/
def ringDistance (next slot : Fin 32) : Nat := (next.val + 31 - slot.val) % 32 + 1

/-- Every valid record lies in the ring at its sequence number's distance behind a place: the slot and
the sequence number that a next write would have. The slot of a write in flight is left out. -/
def RingAt (next : Fin 32) (seq : BitVec 32) (flying : Option (Fin 32)) (slots : Vector Slot 32) : Prop :=
  ∀ i r, some i ≠ flying → (slots.get i).valid? = some r → r.seq = seq - BitVec.ofNat 32 (ringDistance next i)

/-- In a running part, and in reset with a write in flight, the ring fits the writer's place, and the
record in flight is whole and bound for the slot just before it; otherwise the ring fits some place. -/
structure RingSound (s : State) : Prop where
  fits : ∃ next seq, RingAt next seq (s.journal.inFlight.map (·.slot)) s.journal.slots
    ∧ (s.power = .running → next = s.journal.nextSlot ∧ seq = s.journal.nextSeq)
    ∧ (∀ f, s.journal.inFlight = some f →
        f.slot + 1 = next ∧ f.record.seq + 1 = seq ∧ (Slot.whole f.record).valid? = some f.record)
  flying : s.journal.inFlight ≠ none → s.power = .running ∨ s.power = .resetHeld

end Sys2Proof.Machine
end

