-- ==== Sys2Proof/Certificates/Slice0/Obligations.lean ====
section
/-! DEFINITION. The statements about the part, for the provers. -/

open Sys2Proof Sys2Proof.Machine

/-! ## Steps -/

/-- A step runs the command at the front of the queue with the queue's rest. -/
def Obligations.StepRunsTheFrontCommand : Prop :=
  ∀ (c : Instr) (rest : List Instr) (s : State), s.pending = c :: rest →
    step s = exec c { s with pending := rest }

/-- The model's choice (log entry 7): on an empty queue nothing happens without core supply, the scan or
a write held over a reset ends, the head request is taken into service, a join slot that has come is served,
an attempt that may begin begins, a write under way ends, and otherwise one tick passes. A tick advances each
count of the part, up to its limit, and the commands of the counts that have come to it fall due. -/
def Obligations.EmptyQueueIsTheTimebase : Prop :=
  ∀ s : State, s.pending = [] →
    (s.power = .unpowered → step s = .next s)
    ∧ (s.power = .scanning → step s = .next { s with pending := [.recoveryScan] })
    ∧ (s.power = .resetHeld → s.journal.inFlight = none → step s = .next s)
    ∧ (∀ f, s.power = .resetHeld → s.journal.inFlight = some f →
        step s = .next { s with pending := [.writeComplete] })
    ∧ (∀ r rest, s.power = .running → s.port.inService = none → s.port.requests = r :: rest →
        step s = .next { s with pending := [serviceCommand r] })
    ∧ (s.power = .running → (s.port.inService ≠ none ∨ s.port.requests = []) →
        let slot := s.line.mode = .joining ∧ s.line.joinRunning = true ∧ s.line.joinSlotDone = false
          ∧ (cfg s).station * 10 ≤ s.line.joinTicks
        let begins := waitingFrame s ≠ none ∧ s.line.receiver.idleCount = 12
        let held := waitingFrame s ≠ none ∧ s.line.receiver.idleCount < 12
        let settles := s.supply.supplyState = .starting ∨ s.supply.supplyState = .returning
        let charges := s.gauge.gaugeState = .charging ∧ s.gauge.chargingTime < 60
        let raw := s.permits.doorInput.headD s.permits.doorRaw
        (slot → step s = .next { s with pending := [.joinSlot] })
        ∧ (¬ slot → begins → step s = .next { s with pending := [.attemptStart] })
        ∧ (¬ slot → ¬ begins → s.journal.inFlight ≠ none →
            step s = .next { s with pending := [.writeComplete] })
        ∧ (¬ slot → ¬ begins → s.journal.inFlight = none →
            step s = .next { s with
              pending := dueCommands s
              supply := { s.supply with
                pulseSeen := false
                absence := if s.supply.pulseSeen then s.supply.absence else min 3 (s.supply.absence + 1)
                settle :=
                  if settles ∧ s.supply.settleOpen = true
                      ∧ (s.supply.pulseSeen = true ∨ s.supply.absence < 2)
                  then min 50 (s.supply.settle + 1) else s.supply.settle
                settleOpen := s.supply.settleOpen || decide settles
                lossTicks :=
                  if s.supply.lossRunning then min 100 (s.supply.lossTicks + 1) else s.supply.lossTicks }
              gauge := { s.gauge with
                chargingTicks :=
                  if charges then min 100 (s.gauge.chargingTicks + 1) else s.gauge.chargingTicks
                refreshTicks :=
                  if s.gauge.gaugeState = .armed then min 6000 (s.gauge.refreshTicks + 1)
                  else s.gauge.refreshTicks }
              journal := { s.journal with
                intervalTicks :=
                  if s.journal.intervalRunning then
                    min ((cfg s).journalInterval * 100) (s.journal.intervalTicks + 1)
                  else s.journal.intervalTicks }
              context := { s.context with
                stillTicks :=
                  if stillRuns s then min 100 (s.context.stillTicks + 1) else s.context.stillTicks
                freshTicks :=
                  if s.context.freshRunning then min ((cfg s).staleLimit * 100) (s.context.freshTicks + 1)
                  else s.context.freshTicks }
              line := { s.line with
                presenceTicks :=
                  if s.line.presenceRunning then min 200 (s.line.presenceTicks + 1) else s.line.presenceTicks
                joinTicks := if s.line.joinRunning then min 300 (s.line.joinTicks + 1) else s.line.joinTicks
                receiver := { s.line.receiver with
                  heldTicks := if held then min 10 (s.line.receiver.heldTicks + 1) else 0 } }
              view := s.view.map fun e => match e.status with
                | .present => { e with heardAge := min 600 (e.heardAge + 1) }
                | .silent n => { e with status := .silent (min 12000 (n + 1)) }
              admission := { s.admission with
                pending := s.admission.pending.map fun p => { p with ageTicks := min 100 (p.ageTicks + 1) }
                claim := match s.admission.claim with
                  | .holding n u k => .holding n u (min 30 (k + 1))
                  | .sending n u => .sending n u
                  | .unannounced => .unannounced
                spacing := s.admission.spacing.map fun n => min ((cfg s).spacing * 100) (n + 1)
                ramp := s.admission.ramp.map fun n => min ((cfg s).rampInterval * 100) (n + 1)
                shedSettle := s.admission.shedSettle.map fun n => min 200 (n + 1)
                testAtTick := s.admission.testAtTick && withdrawnUnderAttempt s }
              permits := { s.permits with
                period := s.permits.period.map fun n =>
                  if n + 1 < (cfg s).heatPeriod * 100 then n + 1 else n
                doorRaw := raw
                doorInput := s.permits.doorInput.tail
                doorCount := if raw = s.permits.doorOpen then 0 else min 2 (s.permits.doorCount + 1) } }
            ∧ (.dropout ∈ dueCommands s ↔ s.supply.pulseSeen = false ∧ s.supply.absence = 2)
            ∧ (.returnConfirmation ∈ dueCommands s ↔
                s.supply.supplyState = .starting ∧ 50 ≤ (tickSupply s.supply).settle)
            ∧ (.warmReturn ∈ dueCommands s ↔
                s.supply.supplyState = .returning ∧ 50 ≤ (tickSupply s.supply).settle)
            ∧ (∀ n, .peerSilent n ∈ dueCommands s ↔
                ∃ e ∈ s.view, e.number = n ∧ e.status = .present ∧ 599 ≤ e.heardAge)
            ∧ (∀ n, .peerRemoved n ∈ dueCommands s ↔
                ∃ e ∈ s.view, ∃ age, e.number = n ∧ e.status = .silent age ∧ 11999 ≤ age)
            ∧ (.holdExpiry ∈ dueCommands s ↔ ∃ n u k, s.admission.claim = .holding n u k ∧ 29 ≤ k)
            ∧ (.lineHeld ∈ dueCommands s ↔ held ∧ 9 ≤ s.line.receiver.heldTicks)
            ∧ (.doorOpening ∈ dueCommands s ↔
                raw = true ∧ s.permits.doorOpen = false ∧ 1 ≤ s.permits.doorCount)
            ∧ (.doorClosing ∈ dueCommands s ↔
                raw = false ∧ s.permits.doorOpen = true ∧ 1 ≤ s.permits.doorCount)))

/-- Every command answers a next state in every state (log entry 2: the manual describes no stop). None
touches the commands that wait, and none but a start and the loss of core supply changes the settings
once they are in force, or the reset cause (R53, R158). -/
def Obligations.EveryCommandAnswers : Prop :=
  (∀ (c : Instr) (s : State), ∃ t, exec c s = .next t)
  ∧ (∀ (c : Instr) (s t : State), exec c s = .next t →
      t.pending = s.pending
      ∧ (c ≠ .coldStart → c ≠ .coreSupplyFail → c ≠ .pinStart →
          t.supply.cause = s.supply.cause ∧ (s.settings ≠ none → t.settings = s.settings)))

/-- The model's choice (log entry 2): in reset, without core supply and before the scan has ended, the
commands of a running part leave the state as it is. R152: a transaction begun before the scan has ended
is void, one in reset is ignored, and one whose command byte names no transaction is void. That a row given
another transaction's own code, which is ill-formed, acts as void too is the model's choice (log entry 9). -/
def Obligations.NothingRunsBeforeTheScanEnds : Prop :=
  (∀ (c : Instr) (s : State), needsRunning c = true → s.power ≠ .running → exec c s = .next s)
  ∧ (∀ (command : Byte) (rest : List Byte) (s : State),
      let m := command :: rest
      let voided : State := { s with port := { s.port with
        sdo := byte8 (eventsWaiting s) :: List.replicate rest.length 0 } }
      (s.power = .scanning →
        ∀ c ∈ [Instr.sendRequest m, .writeProgress m, .takeEvent m, .readStatus m], exec c s = .next voided)
      ∧ (s.power = .running →
          (command ≠ 0x3C → exec (.sendRequest m) s = .next voided)
          ∧ (command ≠ 0x5A → exec (.takeEvent m) s = .next voided)
          ∧ (command ≠ 0x96 → exec (.writeProgress m) s = .next voided)
          ∧ (command ≠ 0xC3 → exec (.readStatus m) s = .next voided))
      ∧ (s.power = .resetHeld →
        ∀ c ∈ [Instr.sendRequest m, .writeProgress m, .takeEvent m, .readStatus m],
          exec c s = .next { s with port := { s.port with sdo := [] } }))

/-! ## Invariants -/

/-- R155: the two limits, kept by every step. -/
def Obligations.LimitsKept : Prop := ∀ s t : State, WithinLimits s → step s = .next t → WithinLimits t

/-- R14, R17, R23: the buffers' roles, and a NEWEST buffer only in RUNNING and equal to the context. -/
def Obligations.ExchangeKept : Prop := ∀ s t : State, ExchangeSound s → step s = .next t → ExchangeSound t

/-- R2, R9, R12, R71: what the context and the Assessor hold in each cycle state. -/
def Obligations.CycleKept : Prop := ∀ s t : State, CycleSound s → step s = .next t → CycleSound t

/-- R25, R28, R31: a record waits only behind a record in flight or in DORMANT. -/
def Obligations.WriterKept : Prop := ∀ s t : State, WriterSound s → step s = .next t → WriterSound t

/-- R119 to R122, R141 to R146, R149, R150: the held steps, the pending list, the permits and the door. -/
def Obligations.LoadsKept : Prop := ∀ s t : State, LoadsSound s → step s = .next t → LoadsSound t

/-- R95, R99, R100, R105 to R107: the line mode, the transmit queue, the attempt and the view. -/
def Obligations.LineKept : Prop := ∀ s t : State, LineSound s → step s = .next t → LineSound t

/-- R122, R124: the announced claim is for the lowest pending step, whose prerequisite is held; what is held
is held in RUNNING, and requests are pending in RUNNING and RESUMING alone. -/
def Obligations.ClaimKept : Prop :=
  ∀ s t : State, LoadsSound s → LineSound s → CycleSound s → ClaimSound s → step s = .next t → ClaimSound t

/-- R126: the demands of the held steps never exceed the configured bank limits. -/
def Obligations.DemandKept : Prop :=
  ∀ s t : State, LoadsSound s → LineSound s → ClaimSound s → DemandWithinLimits s →
    step s = .next t → DemandWithinLimits t

/-- R26, R30, R34: the valid records lie in the ring in the order of their sequence numbers. -/
def Obligations.RingKept : Prop :=
  ∀ s t : State, WriterSound s → RingSound s → step s = .next t → RingSound t

/-- The state after reset meets every invariant. -/
def Obligations.ResetIsSound : Prop :=
  WithinLimits State.reset ∧ ExchangeSound State.reset ∧ CycleSound State.reset
  ∧ WriterSound State.reset ∧ LoadsSound State.reset ∧ LineSound State.reset
  ∧ ClaimSound State.reset ∧ DemandWithinLimits State.reset ∧ RingSound State.reset

/-! ## Transactions (R152, R153, R160 to R163) -/

/-- R153: a request record joins the queue at its 28th byte when there is room, is refused QUEUE_FULL
when there is none, and is cut short before it. -/
def Obligations.SendRequestOutcome : Prop :=
  ∀ (record : List Byte) (s : State), s.power = .running →
    let m := 0x3C :: record
    (28 ≤ record.length → outstanding s < 8 → outstanding s + eventsWaiting s < 16 →
      exec (.sendRequest m) s = .next { s with port := { s.port with
        requests := s.port.requests ++ [⟨byteAt record 0, byteAt record 1, (record.drop 2).take 26⟩]
        sdo := byte8 (eventsWaiting s) :: padTo record.length (List.replicate 28 0 ++ [0x01]) } })
    ∧ (28 ≤ record.length → (8 ≤ outstanding s ∨ 16 ≤ outstanding s + eventsWaiting s) →
      exec (.sendRequest m) s = .next { s with port := { s.port with
        sdo := byte8 (eventsWaiting s) :: padTo record.length (List.replicate 28 0 ++ [0x02]) } })
    ∧ (record.length < 28 →
      exec (.sendRequest m) s = .next { s with port := { s.port with
        sdo := byte8 (eventsWaiting s) :: List.replicate record.length 0 } })

/-- R160: the oldest event is shifted out and removed at its 24th byte; an empty queue gives the empty
marker; a transaction cut short removes nothing. -/
def Obligations.TakeEventOutcome : Prop :=
  ∀ (clocked : List Byte) (s : State), s.power = .running →
    let m := 0x5A :: clocked
    let n := clocked.length
    (∀ e rest, s.port.events = e :: rest →
      e.bytes.length = 24
      ∧ (24 ≤ n → exec (.takeEvent m) s = .next { s with port := { s.port with
          events := rest
          sdo := byte8 (rest.length + 1) :: (e.bytes ++ List.replicate (n - 24) 0) } })
      ∧ (n < 24 → exec (.takeEvent m) s = .next { s with port := { s.port with
          sdo := byte8 (rest.length + 1) :: e.bytes.take n } }))
    ∧ (s.port.events = [] → exec (.takeEvent m) s = .next { s with port := { s.port with
        sdo := 0 :: List.replicate n 0 } })

/-- R163: the nine bytes of the summary are shifted out, and the two flags are cleared once the ninth byte
has gone. -/
def Obligations.ReadStatusOutcome : Prop :=
  ∀ (clocked : List Byte) (s : State), s.power = .running →
    let m := 0xC3 :: clocked
    let n := clocked.length
    let cause : Nat := match s.supply.cause with | .cold => 1 | .pin => 2
    let supply : Nat := match s.supply.supplyState with
      | .starting => 1 | .onMains => 2 | .holding => 3 | .dormant => 4 | .returning => 5
    let gauge : Nat := match s.gauge.gaugeState with
      | .idle => 1 | .measuring => 2 | .charging => 3 | .armed => 4 | .released => 5 | .fault => 6
    let cycle : Nat := match s.context.cycleState with
      | .noCycle => 0 | .running => 1 | .stopped => 2 | .interrupted => 3 | .resuming => 4
    let mode : Nat := match s.line.mode with
      | .off => 0 | .joining => 1 | .banked => 2 | .alone => 3 | .solo _ => 4
    let solo : Nat := match s.line.mode with
      | .solo .lineFault => 1 | .solo .duplicateStation => 2 | .solo .noPeers => 3
      | .off | .joining | .banked | .alone => 0
    let id : Nat := match s.context.progress with | some p => p.cycleId | none => 0
    let summary : List Byte := [
      BitVec.ofNat 8 (cause + (if s.settings = none then 0 else 4) + (if s.port.eventsLost then 8 else 0)
        + (if s.port.progressRejected then 16 else 0)),
      BitVec.ofNat 8 (supply * 16 + gauge), BitVec.ofNat 8 (cycle * 16 + mode), BitVec.ofNat 8 solo,
      BitVec.ofNat 8 s.port.events.length, BitVec.ofNat 8 (outstanding s),
      BitVec.ofNat 8 (s.admission.held.length * 16 + s.permits.duty % 16),
      BitVec.ofNat 8 (id / 256), BitVec.ofNat 8 id]
    (9 ≤ n → exec (.readStatus m) s = .next { s with port := { s.port with
        eventsLost := false
        progressRejected := false
        sdo := byte8 (eventsWaiting s) :: (summary ++ List.replicate (n - 9) 0) } })
    ∧ (n < 9 → exec (.readStatus m) s = .next { s with port := { s.port with
        sdo := byte8 (eventsWaiting s) :: summary.take n } })

/-- R161: ATTN_N is low exactly while an event waits, in every supply state; it is released in reset and
at every start. -/
def Obligations.AttentionFollowsTheEvents : Prop :=
  (∀ s : State, s.power = .running → (attnLow s = true ↔ s.port.events ≠ []))
  ∧ (∀ (e : Event) (s : State), 16 ≤ outstanding s + eventsWaiting s → attnLow (post e s) = attnLow s)
  ∧ (∀ s : State, s.power = .resetHeld → attnLow s = false)
  ∧ (∀ (n : Nat) (s : State), 10 ≤ n → s.power ≠ .unpowered →
      ∃ t, exec (.resetN n) s = .next t ∧ attnLow t = false)
  ∧ (∀ s : State, ∃ t, exec .coldStart s = .next t ∧ attnLow t = false)
  ∧ (∀ s : State, s.power = .resetHeld → s.journal.inFlight = none →
      ∃ t, exec .pinStart s = .next t ∧ attnLow t = false)

/-- R15 to R17, R162: a transaction cut short leaves everything; a record that fails one of the four tests sets
PROGRESS_REJECTED and nothing else; an accepted commit becomes NEWEST and the context's figures, and a
later phase is taken into a PROGRESS record at once. -/
def Obligations.ProgressCommits : Prop :=
  (∀ (record : List Byte) (s : State), s.power = .running →
      (record.length < 10 → exec (.writeProgress (0x96 :: record)) s = .next { s with port := { s.port with
        sdo := byte8 (eventsWaiting s) :: List.replicate record.length 0 } })
      ∧ (10 ≤ record.length →
          (progressOf record = none ∨ s.context.cycleState ≠ .running
            ∨ ∃ p q, progressOf record = some p ∧ s.context.progress = some q
                ∧ (p.cycleId ≠ q.cycleId ∨ p.phase.rank < q.phase.rank)) →
          exec (.writeProgress (0x96 :: record)) s = .next { s with port := { s.port with
            progressRejected := true
            sdo := byte8 (eventsWaiting s) :: List.replicate record.length 0 } }))
  ∧ (∀ (record : List Byte) (s : State) (p q : Progress), s.power = .running → ExchangeSound s →
      10 ≤ record.length → progressOf record = some p → s.context.cycleState = .running →
      s.context.progress = some q → p.cycleId = q.cycleId → q.phase.rank ≤ p.phase.rank →
      ∃ t, exec (.writeProgress (0x96 :: record)) s = .next t
        ∧ t.context = { s.context with
            progress := some p, stale := false, aged := false, freshRunning := true, freshTicks := 0 }
        ∧ t.port = { s.port with sdo := byte8 (eventsWaiting s) :: List.replicate record.length 0 }
        ∧ t.exchange.count Buffer.isHostWrite = 1
        ∧ (p.phase = q.phase →
            t.journal = s.journal ∧ t.exchange.newest? = some p
            ∧ (∀ r, (s.exchange.a = .journalHeld r → t.exchange.a = .journalHeld r)
                ∧ (s.exchange.b = .journalHeld r → t.exchange.b = .journalHeld r)
                ∧ (s.exchange.c = .journalHeld r → t.exchange.c = .journalHeld r)))
        ∧ (p.phase ≠ q.phase →
            t.journal = queuedJournal (recordOf .progress .zero t.context p s.gauge) s
            ∧ t.exchange.newest? = none
            ∧ (t.exchange.a = .journalHeld p ∨ t.exchange.b = .journalHeld p ∨ t.exchange.c = .journalHeld p))
        ∧ KeepsAllBut [.context, .port, .exchange, .journal] s t)

/-! ## Requests taken into service (R154) -/

/-- R49, R154: away from mains every request is refused SUPPLY_LOST, on an unconfigured part every kind
but CONFIGURE is refused NOT_CONFIGURED, and an unknown kind is refused BAD_KIND. That the completion carries
the kind and the step byte as they were sent, an unknown kind and a bad step among them, is the model's reading
(log entry 18), and that a command whose kind is not the head request's changes nothing is its choice (log
entry 10). -/
def Obligations.CommonTestsRefuse : Prop :=
  ∀ (s : State) (r : Request) (rest : List Request), s.power = .running → s.port.inService = none →
    s.port.requests = r :: rest →
    let away := s.supply.supplyState = .holding ∨ s.supply.supplyState = .dormant
      ∨ s.supply.supplyState = .returning
    (∀ k : RequestKind, r.kind = k.code →
      (away → exec k.command s = .next { s with port := answered r rest .supplyLost 0 s.port })
      ∧ (¬ away → k ≠ .configure → s.settings = none →
          exec k.command s = .next { s with port := answered r rest .notConfigured 0 s.port }))
    ∧ ((∀ k : RequestKind, r.kind ≠ k.code) →
      (away → exec .unknownKindServed s = .next { s with port := answered r rest .supplyLost 0 s.port })
      ∧ (¬ away → exec .unknownKindServed s = .next { s with port := answered r rest .badKind 0 s.port }))
    ∧ (∀ k : RequestKind, r.kind ≠ k.code → exec k.command s = .next s)
    ∧ (∀ k : RequestKind, r.kind = k.code → exec .unknownKindServed s = .next s)

/-- R4 to R7, R9, R121, R130, R156: the own refusals of the cycle requests and of the step requests, in
their order, each with its result and nothing else. That a BAD_STEP completion carries the bad parameter as it
was sent is the model's reading (log entry 18). -/
def Obligations.OwnTestsRefuse : Prop :=
  (∀ (s : State) (r : Request) (rest : List Request),
      let refused : Result → Host.Outcome State Fault Refusal := fun x =>
        .next { s with port := answered r rest x 0 s.port }
      (Served .openCycle s r rest →
        (s.context.cycleState ≠ .noCycle → exec .openCycle s = refused .cycleOpen)
        ∧ (s.context.cycleState = .noCycle →
            (num16 r.params 0 = 0 ∨ (byteAt r.params 2 ≠ 1 ∧ byteAt r.params 2 ≠ 2)) →
            exec .openCycle s = refused .badCycle))
      ∧ (Served .hostStop s r rest → s.context.cycleState ≠ .running → exec .hostStop s = refused .wrongState)
      ∧ (Served .continueCycle s r rest → s.context.cycleState ≠ .stopped →
          exec .continueCycle s = refused .wrongState)
      ∧ (Served .closeCycle s r rest →
          (s.context.cycleState = .noCycle ∨ s.context.cycleState = .interrupted) →
          exec .closeCycle s = refused .wrongState)
      ∧ (Served .resumeAnswer s r rest →
          (r.param ≠ 1 → r.param ≠ 2 → exec .resumeAnswer s = refused .badAnswer)
          ∧ (r.param = 1 ∨ r.param = 2 →
              (s.context.cycleState ≠ .interrupted ∨ s.assessor.awaiting = false ∨ s.context.plan = none) →
              exec .resumeAnswer s = refused .notAsked)
          ∧ (r.param = 1 → s.context.cycleState = .interrupted → s.assessor.awaiting = true →
              s.context.plan ≠ none → s.permits.doorOpen = true → exec .resumeAnswer s = refused .doorOpen)))
  ∧ (∀ (s : State) (r : Request) (rest : List Request),
      let n := r.param.toNat
      let refused : Result → Host.Outcome State Fault Refusal := fun x =>
        .next { s with port := answered r rest x 0 s.port }
      let runs := s.context.cycleState = .running ∨ s.context.cycleState = .resuming
      (Served .requestStep s r rest →
        (n = 0 ∨ 6 < n → exec .requestStep s = refused .badStep)
        ∧ (1 ≤ n → n ≤ 6 →
          (¬ runs → exec .requestStep s = refused .notRunning)
          ∧ (runs → s.permits.doorOpen = true → exec .requestStep s = refused .doorOpen)
          ∧ (runs → s.permits.doorOpen = false → (n ≤ heldLen s ∨ isPending s n = true) →
              exec .requestStep s = refused .duplicate)
          ∧ (runs → s.permits.doorOpen = false → heldLen s < n → isPending s n = false → n ≠ 1 →
              heldUnmarked s (n - 1) = false → isPending s (n - 1) = false →
              exec .requestStep s = refused .stepOrder)))
      ∧ (Served .dropStep s r rest →
        (n = 0 ∨ 6 < n → exec .dropStep s = refused .badStep)
        ∧ (1 ≤ n → n ≤ 6 → heldLen s < n → isPending s n = false → exec .dropStep s = refused .notHeld)))

/-- R69, R157: a second CONFIGURE is refused, then a station or bank size and then a limit out of its
range, with the failing settings named; while the gauge reads, CONFIGURE stays in service. -/
def Obligations.ConfigureRefusedOrHeld : Prop :=
  ∀ (s : State) (r : Request) (rest : List Request), Served .configure s r rest →
    let c := r.settings
    let badStation := 15 < c.station ∨ c.bankSize = 0 ∨ 16 < c.bankSize
    let badLimit := c.airDuct = 0 ∨ 1020 < c.heater ∨ c.feederLimit = 0 ∨ 4095 < c.feederLimit
      ∨ c.ductLimit = 0 ∨ 4095 < c.ductLimit ∨ c.feederLimit < c.drumFeeder + c.airFeeder
      ∨ c.ductLimit < c.airDuct
    let reading := s.gauge.gaugeState = .idle ∨ s.gauge.gaugeState = .measuring
    (reading → exec .configure s
      = .next { s with port := { s.port with requests := rest, inService := some r } })
    ∧ (¬ reading → s.settings ≠ none →
        exec .configure s = .next { s with port := answered r rest .alreadyConfigured 0 s.port })
    ∧ (¬ reading → s.settings = none → badStation →
        ∃ m : BitVec 24, exec .configure s = .next { s with port := answered r rest .badStation m s.port }
          ∧ (m.getLsbD 0 = true ↔ 15 < c.station)
          ∧ (m.getLsbD 1 = true ↔ c.bankSize = 0 ∨ 16 < c.bankSize)
          ∧ ∀ i, 2 ≤ i → m.getLsbD i = false)
    ∧ (¬ reading → s.settings = none → ¬ badStation → badLimit →
        ∃ m : BitVec 24, exec .configure s = .next { s with port := answered r rest .badLimit m s.port }
          ∧ (m.getLsbD 2 = true ↔ c.feederLimit < c.drumFeeder + c.airFeeder)
          ∧ (m.getLsbD 3 = true ↔ c.feederLimit < c.drumFeeder + c.airFeeder)
          ∧ (m.getLsbD 4 = true ↔ c.airDuct = 0 ∨ c.ductLimit < c.airDuct)
          ∧ (m.getLsbD 5 = true ↔ 1020 < c.heater)
          ∧ (m.getLsbD 6 = true ↔ c.feederLimit = 0 ∨ 4095 < c.feederLimit
              ∨ c.feederLimit < c.drumFeeder + c.airFeeder)
          ∧ (m.getLsbD 7 = true ↔ c.ductLimit = 0 ∨ 4095 < c.ductLimit ∨ c.ductLimit < c.airDuct)
          ∧ m.getLsbD 0 = false ∧ m.getLsbD 1 = false ∧ ∀ i, 8 ≤ i → m.getLsbD i = false)

/-- R158, R68, R81, R102: an accepted CONFIGURE puts the clamped settings in force, each of the eleven timing
and tuning settings at the nearer end of its range, names the clamped ones by their bits, computes the gauge
off-time, starts the journal interval, completes DONE or CLAMPED before anything else is posted, returns
the carried off-time to 0, and in ON_MAINS begins the join window; in NO_CYCLE the PLAN of no action
follows. -/
def Obligations.ConfigureAccepted : Prop :=
  ∀ (s : State) (r : Request) (rest : List Request), Served .configure s r rest → s.settings = none →
    s.gauge.gaugeState ≠ .idle → s.gauge.gaugeState ≠ .measuring →
    let raw := r.settings
    raw.station ≤ 15 → 1 ≤ raw.bankSize → raw.bankSize ≤ 16 →
    1 ≤ raw.airDuct → raw.heater ≤ 1020 → 1 ≤ raw.feederLimit → raw.feederLimit ≤ 4095 →
    1 ≤ raw.ductLimit → raw.ductLimit ≤ 4095 → raw.drumFeeder + raw.airFeeder ≤ raw.feederLimit →
    raw.airDuct ≤ raw.ductLimit →
    let c : Settings := { raw with
      halfLife := max 30 (min raw.halfLife 1800)
      reheatFactor := min raw.reheatFactor 16
      reheatCap := min raw.reheatCap 3600
      creaseTime := max 60 (min raw.creaseTime 1800)
      reliefTime := max 30 (min raw.reliefTime 600)
      journalInterval := max 10 (min raw.journalInterval 120)
      staleLimit := max 5 (min raw.staleLimit 120)
      spacing := max 1 (min raw.spacing 10)
      rampInterval := max 2 (min raw.rampInterval 30)
      heatPeriod := max 4 (min raw.heatPeriod 60)
      soloCap := min raw.soloCap 4 }
    let off : OffTime := match s.gauge.logRatio with
      | .ratio l => .seconds (l * c.halfLife / 256)
      | .over => .over
      | .unknown => .unknown
      | .noneYet => .unknown
    ∃ (map : BitVec 24) (t : State), exec .configure s = .next t
      ∧ (∀ i, map.getLsbD i = true ↔
          (i = 8 ∧ c.halfLife ≠ raw.halfLife) ∨ (i = 9 ∧ c.reheatFactor ≠ raw.reheatFactor)
          ∨ (i = 10 ∧ c.reheatCap ≠ raw.reheatCap) ∨ (i = 11 ∧ c.creaseTime ≠ raw.creaseTime)
          ∨ (i = 12 ∧ c.reliefTime ≠ raw.reliefTime)
          ∨ (i = 13 ∧ c.journalInterval ≠ raw.journalInterval)
          ∨ (i = 14 ∧ c.staleLimit ≠ raw.staleLimit) ∨ (i = 15 ∧ c.spacing ≠ raw.spacing)
          ∨ (i = 16 ∧ c.rampInterval ≠ raw.rampInterval) ∨ (i = 17 ∧ c.heatPeriod ≠ raw.heatPeriod)
          ∨ (i = 18 ∧ c.soloCap ≠ raw.soloCap))
      ∧ (let done : Port := answered r rest (if c = raw then .done else .clamped) map s.port
        t.settings = some c ∧ t.assessor.gaugeOff = some off
        ∧ t.journal.intervalRunning = true ∧ t.journal.intervalTicks = 0
        ∧ (∃ more, t.port.events = done.events ++ more)
        ∧ t.supply = { s.supply with carried := 0 }
        ∧ (s.supply.supplyState = .onMains → t.line.mode = .joining ∧ t.line.queue = []
            ∧ t.line.attempt = none ∧ t.line.failures = 0 ∧ t.line.presenceRunning = false
            ∧ t.line.joinRunning = true ∧ t.line.joinTicks = 0
            ∧ t.line.duplicateMark = s.line.duplicateMark ∧ t.view = [])
        ∧ (s.supply.supplyState ≠ .onMains → t.line = s.line ∧ t.view = s.view)
        ∧ (s.context.cycleState = .noCycle →
            t.context = s.context ∧ t.exchange = s.exchange
            ∧ t.journal = { s.journal with intervalRunning := true, intervalTicks := 0 }
            ∧ t.port = postedPort (.plan
                { plan :=
                    { action := .noAction, source := .gauge, offTime := off, still := none, reheat := none,
                      figures := ⟨none, none, none, none⟩, aged := false, estimated := estimatedBy off s,
                      gaugeFlag := decide (off = .unknown), base := none, stage := .provisional }
                  stale := s.context.stale, aged := s.context.aged, doorSeen := s.context.doorSeen
                  cycleId := (s.context.progress.map (·.cycleId)).getD 0, stopReason := none })
                { s with port := done })
        ∧ KeepsAllBut [.settings, .assessor, .journal, .port, .supply, .line, .view, .context,
            .exchange] s t)

/-- R72 to R80: the assessment of an INTERRUPTED or STOPPED cycle, by the rows of the plan table, at an
accepted CONFIGURE with the gauge off-time and the carried off-time, and at the warm return of a configured
part with the loss timer's reading. The PLAN event follows the CONFIGURE's completion, and MAINS_BACK. -/
def Obligations.AssessmentsOfAnOpenCycle : Prop :=
  ∀ (s : State) (p : Progress), s.context.progress = some p → ExchangeSound s →
    (s.context.cycleState = .interrupted ∨ s.context.cycleState = .stopped) →
    (∀ (r : Request) (rest : List Request) (c : Settings), Served .configure s r rest → s.settings = none →
      s.gauge.gaugeState ≠ .idle → s.gauge.gaugeState ≠ .measuring →
      badStationMap r.settings = 0 → badLimitMap r.settings = 0 → c = r.settings.clamped →
      ∃ (t : State) (result : Result) (map : BitVec 24), exec .configure s = .next t
        ∧ Assessed c .gauge (gaugeOffTime s.gauge.logRatio c.halfLife) s.supply.carried p
            (answered r rest result map s.port) s t)
    ∧ (∀ c : Settings, s.power = .running → s.supply.supplyState = .returning → 50 ≤ s.supply.settle →
      s.settings = some c →
      ∃ t, exec .warmReturn s = .next t
        ∧ Assessed c .timer (.seconds s.supply.lossReading) 0 p (postedPort (.mainsBack s.supply.lossReading) s)
            { s with context := { s.context with stillStarted := true } } t)

/-! ## The cycle requests taken (R4 to R7, R9) -/

/-- R4, R6: OPEN_CYCLE and CONTINUE_CYCLE taken: RUNNING with S 0, the freshness timer from 0 and an OPEN
or RESUMED record. -/
def Obligations.CycleOpensOrContinues : Prop :=
  (∀ (s : State) (r : Request) (rest : List Request) (ph : Phase), Served .openCycle s r rest →
      ExchangeSound s → s.context.cycleState = .noCycle → num16 r.params 0 ≠ 0 →
      phaseOf (byteAt r.params 2) = some ph → ph ≠ .guarding →
      let p : Progress := ⟨num16 r.params 0, ph, num16 r.params 3, num16 r.params 5, num16 r.params 7⟩
      let c : Context := { s.context with
        cycleState := .running, progress := some p, still := 0, base := 4, stopReason := none,
        stale := false, aged := false, doorSeen := false, plan := none, stillTicks := 0,
        freshRunning := true, freshTicks := 0 }
      exec .openCycle s = .next { s with
        context := c
        assessor := { s.assessor with estimateMark := false }
        journal := queuedJournal (recordOf .opened .zero c p s.gauge) s
        port := answered r rest .done 0 s.port })
  ∧ (∀ (s : State) (r : Request) (rest : List Request) (p : Progress), Served .continueCycle s r rest →
      ExchangeSound s → s.context.cycleState = .stopped → s.context.progress = some p →
      let c : Context := { s.context with
        cycleState := .running, still := 0, stopReason := none, doorSeen := false, plan := none,
        stillTicks := 0, freshRunning := true, freshTicks := 0 }
      exec .continueCycle s = .next { s with
        context := c
        assessor := { s.assessor with awaiting := false, stage := .provisional, estimateMark := false }
        journal := queuedJournal (recordOf .resumed .continued c p s.gauge) s
        port := answered r rest .done 0 s.port })

/-- R5, R7, R2, R99, R100, R127, R134: HOST_STOP and CLOSE_CYCLE taken: every step released with one RELEASED
frame of step 0 and the summed deltas, every pending request CANCELLED, the claim withdrawn with its WITHDRAWN
frame settled, a STOP or CLOSE record queued, and STOPPED or NO_CYCLE entered. That the waiters complete before
the pending requests is the model's choice (log entry 14). -/
def Obligations.StopAndCloseReleaseEverything : Prop :=
  (∀ (s : State) (r : Request) (rest : List Request) (p : Progress), Served .hostStop s r rest →
      LoadsSound s → ExchangeSound s → s.context.cycleState = .running → s.context.progress = some p →
      ∃ t, exec .hostStop s = .next t
        ∧ t.context = { s.context with
            cycleState := .stopped, stopReason := some r.param, freshRunning := false, stillTicks := 0 }
        ∧ t.admission = { s.admission with
            held := [], pending := [], claim := .unannounced,
            waiters := s.admission.waiters.filter (fun w => w.step = 0) }
        ∧ ReleaseFrames 1 s s.line t.line
        ∧ OnlyFrames s t
        ∧ t.permits = { s.permits with
            drum := false, air := false, heat := false, duty := 0, period := none, blank := false }
        ∧ t.journal = queuedJournal (recordOf .stopped (.stop r.param) t.context p s.gauge) s
        ∧ t.exchange = s.exchange.take
        ∧ t.port = { s.port with
            requests := rest
            events := s.port.events ++ waiterCompletions (s.admission.waiters.filter (fun w => 0 < w.step))
              ++ stepCompletions .cancelled s.admission.pending
              ++ [.completion r.tag r.kind .done 0 0] }
        ∧ KeepsAllBut [.context, .admission, .permits, .journal, .exchange, .port, .line] s t)
  ∧ (∀ (s : State) (r : Request) (rest : List Request) (p : Progress), Served .closeCycle s r rest →
      LoadsSound s → ExchangeSound s → s.context.progress = some p →
      (s.context.cycleState = .running ∨ s.context.cycleState = .stopped
        ∨ s.context.cycleState = .resuming) →
      let why : CloseReason :=
        if r.param = 1 then .completed else if r.param = 2 then .unloaded else .cancelled
      ∃ t, exec .closeCycle s = .next t
        ∧ t.context = closedContext s.context
        ∧ t.exchange = s.exchange.mapBuffers Buffer.emptied
        ∧ t.assessor = { s.assessor with awaiting := false, stage := .provisional, estimateMark := false }
        ∧ t.admission = { s.admission with
            held := [], pending := [], claim := .unannounced,
            waiters := s.admission.waiters.filter (fun w => w.step = 0) }
        ∧ ReleaseFrames 1 s s.line t.line
        ∧ OnlyFrames s t
        ∧ t.permits = { s.permits with
            drum := false, air := false, heat := false, duty := 0, period := none, blank := false }
        ∧ t.journal = queuedJournal (recordOf .closed (.close why) s.context p s.gauge) s
        ∧ t.port = { s.port with
            requests := rest
            events := s.port.events ++ waiterCompletions (s.admission.waiters.filter (fun w => 0 < w.step))
              ++ stepCompletions .cancelled s.admission.pending
              ++ [.completion r.tag r.kind .done 0 0] }
        ∧ KeepsAllBut [.context, .exchange, .assessor, .admission, .permits, .journal, .port, .line] s t)

/-- R9, R82, R83: an accepted plan makes the cycle RESUMING with the plan's urgency base and is completed
DONE; if its guard has already expired, the expiry follows at once: CLOSE (GUARD_EXPIRED), PLAN_FINAL and
NO_CYCLE. A declined plan closes the cycle with CLOSE (DECLINED). -/
def Obligations.ResumeAnswerTaken : Prop :=
  ∀ (s : State) (r : Request) (rest : List Request) (plan : Plan) (p : Progress),
    Served .resumeAnswer s r rest → ExchangeSound s → ClaimSound s → s.context.cycleState = .interrupted →
    s.assessor.awaiting = true → s.context.plan = some plan → s.context.progress = some p →
    let base := plan.base.getD s.context.base
    let final : Plan := { plan with
      action := .finish, still := some s.context.still, reheat := none, figures := ⟨none, none, none, none⟩,
      aged := s.context.aged, base := none, stage := .finalStage }
    (r.param = 1 → s.permits.doorOpen = false → (p.phase ≠ .guarding ∨ s.context.still < p.remaining) →
      exec .resumeAnswer s = .next { s with
        context := { s.context with cycleState := .resuming, base := base }
        assessor := { s.assessor with awaiting := false }
        port := answered r rest .done 0 s.port })
    ∧ (r.param = 1 → s.permits.doorOpen = false → p.phase = .guarding → p.remaining ≤ s.context.still →
      exec .resumeAnswer s = .next { s with
        context := closedContext s.context
        exchange := s.exchange.mapBuffers Buffer.emptied
        assessor := { s.assessor with awaiting := false, stage := .provisional, estimateMark := false }
        journal := queuedJournal (recordOf .closed (.close .guardExpired)
          { s.context with cycleState := .resuming, base := base } p s.gauge) s
        port := postedPort (.planFinal (planReport final s.context p))
          { s with port := answered r rest .done 0 s.port } })
    ∧ (r.param = 2 →
      exec .resumeAnswer s = .next { s with
        context := closedContext s.context
        exchange := s.exchange.mapBuffers Buffer.emptied
        assessor := { s.assessor with awaiting := false, stage := .provisional, estimateMark := false }
        journal := queuedJournal (recordOf .closed (.close .declined) s.context p s.gauge) s
        port := answered r rest .done 0 s.port })

/-! ## The step requests taken (R121, R131 to R133) -/

/-- R121: a REQUEST_STEP that passes joins the pending list in its step's place with a waiting age of 0,
and its completion waits. -/
def Obligations.RequestStepTaken : Prop :=
  ∀ (s : State) (r : Request) (rest : List Request), Served .requestStep s r rest → LoadsSound s →
    1 ≤ r.param.toNat → r.param.toNat ≤ 6 →
    (s.context.cycleState = .running ∨ s.context.cycleState = .resuming) →
    s.permits.doorOpen = false → heldLen s < r.param.toNat → isPending s r.param.toNat = false →
    (r.param.toNat = 1 ∨ heldUnmarked s (r.param.toNat - 1) = true
      ∨ isPending s (r.param.toNat - 1) = true) →
    ∃ t, exec .requestStep s = .next t
      ∧ t.admission.pending.Perm (⟨r.param.toNat, r.tag, 0, 0⟩ :: s.admission.pending)
      ∧ t.admission.pending.Pairwise (fun p q => p.step < q.step)
      ∧ t.admission = { s.admission with pending := t.admission.pending }
      ∧ t.port = { s.port with requests := rest }
      ∧ outstanding t = outstanding s
      ∧ KeepsAllBut [.admission, .port] s t

/-- R131, R122, R127: a DROP_STEP of a pending step completes it CANCELLED, then the requests above it as
orphans, and then itself DONE; a claim for any of them is withdrawn, and no frame but its WITHDRAWN is sent. -/
def Obligations.DropPendingStep : Prop :=
  ∀ (s : State) (r : Request) (rest : List Request), Served .dropStep s r rest → LoadsSound s →
    ClaimSound s → isPending s r.param.toNat = true →
    let n := r.param.toNat
    ∃ t, exec .dropStep s = .next t
      ∧ t.admission = { s.admission with
          pending := s.admission.pending.filter (fun p => p.step < n), claim := t.admission.claim }
      ∧ OnlyFrames s t
      ∧ (∀ m, announcedStep s = some m → n ≤ m → t.admission.claim = .unannounced
          ∧ FrameWithdrawn (frameOfStep .withdrawn m s) s.line t.line)
      ∧ ((∀ m, announcedStep s = some m → m < n) → t.admission.claim = s.admission.claim ∧ t.line = s.line)
      ∧ t.port = { s.port with
          requests := rest
          events := s.port.events
            ++ stepCompletions .cancelled (s.admission.pending.filter (fun p => n ≤ p.step))
            ++ [.completion r.tag r.kind .done r.param 0] }
      ∧ KeepsAllBut [.admission, .port, .line] s t

/-- R122, R127, R132, R133, R146: a DROP_STEP of held DRUM or AIR releases it and every step above at once, with
the heat output dropped, one RELEASED frame, the pending requests CANCELLED and the claim withdrawn; one of a
held heat step marks it and every step above, which stay held, and waits for the period end; the pending requests
and the claim go there too, and no frame but the WITHDRAWN is sent. -/
def Obligations.HeldStepsDropped : Prop :=
  (∀ (s : State) (r : Request) (rest : List Request), Served .dropStep s r rest → LoadsSound s →
      ClaimSound s → 1 ≤ r.param.toNat → r.param.toNat ≤ 2 → r.param.toNat ≤ heldLen s →
      let n := r.param.toNat
      ∃ t, exec .dropStep s = .next t
        ∧ t.admission = { s.admission with
            held := s.admission.held.take (n - 1), pending := [], claim := .unannounced,
            waiters := s.admission.waiters.filter (fun w => w.step ≤ n - 1) }
        ∧ ReleaseFrames n s s.line t.line
        ∧ OnlyFrames s t
        ∧ t.permits = { s.permits with
            drum := decide (n = 2), air := false, heat := false, duty := 0, period := none, blank := false }
        ∧ t.port = { s.port with
            requests := rest
            events := s.port.events ++ stepCompletions .cancelled s.admission.pending
              ++ waiterCompletions (s.admission.waiters.filter (fun w => n - 1 < w.step))
              ++ [.completion r.tag r.kind .done r.param 0] }
        ∧ KeepsAllBut [.admission, .permits, .line, .port] s t)
  ∧ (∀ (s : State) (r : Request) (rest : List Request), Served .dropStep s r rest → LoadsSound s →
      ClaimSound s → 3 ≤ r.param.toNat → r.param.toNat ≤ heldLen s →
      let n := r.param.toNat
      ∃ t, exec .dropStep s = .next t
        ∧ t.admission.held.length = s.admission.held.length
        ∧ (∀ (i : Nat) (h : HeldStep), s.admission.held[i]? = some h →
            t.admission.held[i]? = some { h with mark := h.mark || decide (n ≤ i + 1) })
        ∧ t.admission = { s.admission with
            held := t.admission.held, pending := [], claim := .unannounced,
            waiters := s.admission.waiters ++ [⟨n, r.tag⟩] }
        ∧ WithdrawalFrame s s.line t.line
        ∧ OnlyFrames s t
        ∧ t.port = { s.port with
            requests := rest
            events := s.port.events ++ stepCompletions .cancelled s.admission.pending }
        ∧ KeepsAllBut [.admission, .line, .port] s t)

/-! ## The journal and the context's timers (R12, R13, R23, R27, R83) -/

/-- R27, R28, R31: a completed write leaves its slot holding the record whole; a waiting record starts
at once unless the supply is DORMANT. -/
def Obligations.WriteCompletes : Prop :=
  ∀ (s : State) (f : InFlight), s.journal.inFlight = some f → s.power ≠ .unpowered →
    ∃ t, exec .writeComplete s = .next t
      ∧ t.journal.slots = s.journal.slots.set f.slot (.whole f.record)
      ∧ (∀ b, s.journal.waiting = some b → s.power = .running → s.supply.supplyState ≠ .dormant →
          t.journal.inFlight = some ⟨s.journal.nextSlot, makeRecord s.journal.nextSeq b⟩
          ∧ t.journal.waiting = none ∧ t.journal.nextSlot = s.journal.nextSlot + 1
          ∧ t.journal.nextSeq = s.journal.nextSeq + 1)
      ∧ ((s.journal.waiting = none ∨ s.power ≠ .running ∨ s.supply.supplyState = .dormant) →
          t.journal.inFlight = none ∧ t.journal.waiting = s.journal.waiting
          ∧ t.journal.nextSlot = s.journal.nextSlot ∧ t.journal.nextSeq = s.journal.nextSeq)
      ∧ t.journal.intervalTicks = s.journal.intervalTicks
      ∧ KeepsAllBut [.journal] s t

/-- R23, R13: the journal interval restarts and takes a NEWEST buffer into a PROGRESS record; at the stale
limit the freshness timer stops, and STALE is set and PROGRESS_STALE posted if it was not set. That a command
taken before its count has come to the limit changes nothing, as after a commit that restarted the timer, is
log entry 8. -/
def Obligations.JournalIntervalAndFreshness : Prop :=
  (∀ (s : State), s.power = .running → ExchangeSound s → s.journal.intervalRunning = true →
      (s.journal.intervalTicks < (cfg s).journalInterval * 100 → exec .journalInterval s = .next s)
      ∧ ((cfg s).journalInterval * 100 ≤ s.journal.intervalTicks →
        (s.exchange.newest? = none → exec .journalInterval s
          = .next { s with journal := { s.journal with intervalTicks := 0 } })
        ∧ (∀ p, s.exchange.newest? = some p → exec .journalInterval s
          = .next { s with
              exchange := s.exchange.mapBuffers Buffer.handedOver
              journal := { queuedJournal (recordOf .progress .zero s.context p s.gauge) s with
                intervalTicks := 0 } })))
  ∧ (∀ (s : State) (p : Progress), s.power = .running → s.context.cycleState = .running →
      s.context.freshRunning = true → s.context.progress = some p →
      (s.context.freshTicks < (cfg s).staleLimit * 100 → exec .freshnessExpiry s = .next s)
      ∧ ((cfg s).staleLimit * 100 ≤ s.context.freshTicks → ∃ t, exec .freshnessExpiry s = .next t
        ∧ t.context = { s.context with
            stale := true, freshRunning := false, freshTicks := (cfg s).staleLimit * 100 }
        ∧ (s.context.stale = true → t.port = s.port)
        ∧ (s.context.stale = false → t.port = postedPort (.progressStale p.cycleId) s)
        ∧ KeepsAllBut [.context, .port] s t))

/-- R12: each second of the still timer adds 1 to S, up to 65,535, where no guard expires. That the command
changes nothing before the hundredth tick is log entry 8. -/
def Obligations.StillTimerAddsASecond : Prop :=
  ∀ (s : State), s.power = .running → s.context.stillStarted = true →
    (s.context.cycleState = .interrupted ∨ s.context.cycleState = .resuming
      ∨ s.context.cycleState = .stopped) →
    (s.supply.supplyState = .onMains
      ∨ (s.supply.supplyState = .starting ∧ s.gauge.startup ≠ .noneYet)) →
    (s.context.stillTicks < 100 → exec .stillTimerSecond s = .next s)
    ∧ (100 ≤ s.context.stillTicks →
      (∀ p, s.context.cycleState = .resuming → s.context.progress = some p → p.phase = .guarding →
        min 65535 (s.context.still + 1) < p.remaining) →
      exec .stillTimerSecond s = .next { s with context := { s.context with
        still := min 65535 (s.context.still + 1), stillTicks := 0 } })

/-- R83: in RESUMING with the phase GUARD, the second that brings S to the phase remaining, in ON_MAINS or in
STARTING after the start-up reading, retires the plan: the DRUM request is completed CANCELLED and those
chained above it after it, the claim withdrawn, CLOSE (GUARD_EXPIRED) queued with the S that reached R,
PLAN_FINAL posted and NO_CYCLE entered. -/
def Obligations.GuardExpires : Prop :=
  ∀ (s : State) (p : Progress) (plan : Plan), s.power = .running → s.context.stillStarted = true →
    (s.supply.supplyState = .onMains
      ∨ (s.supply.supplyState = .starting ∧ s.gauge.startup ≠ .noneYet)) →
    s.context.cycleState = .resuming → 100 ≤ s.context.stillTicks →
    LoadsSound s → ClaimSound s → ExchangeSound s →
    s.context.progress = some p → s.context.plan = some plan → p.phase = .guarding →
    p.remaining ≤ min 65535 (s.context.still + 1) →
    let still := min 65535 (s.context.still + 1)
    let expired : Context := { s.context with still := still, stillTicks := 0 }
    let final : Plan := { plan with
      action := .finish, still := some still, reheat := none, figures := ⟨none, none, none, none⟩,
      aged := s.context.aged, base := none, stage := .finalStage }
    let cancelled : Port := { s.port with
      events := s.port.events ++ stepCompletions .cancelled s.admission.pending }
    ∃ t, exec .stillTimerSecond s = .next t
      ∧ t.context = closedContext expired
      ∧ t.exchange = s.exchange.mapBuffers Buffer.emptied
      ∧ t.assessor = { s.assessor with awaiting := false, stage := .provisional, estimateMark := false }
      ∧ t.admission = { s.admission with pending := [], claim := .unannounced }
      ∧ t.journal = queuedJournal (recordOf .closed (.close .guardExpired) expired p s.gauge) s
      ∧ t.port = postedPort (.planFinal (planReport final s.context p))
          { s with port := cancelled, admission := { s.admission with pending := [] } }
      ∧ WithdrawalFrame s s.line t.line
      ∧ OnlyFrames s t
      ∧ KeepsAllBut [.context, .exchange, .assessor, .admission, .journal, .port, .line] s t

/-! ## Starts, resets and the recovery scan (R3, R30 to R36, R51 to R53) -/

/-- R30, R31, R36, R51 to R55, R105, R120, R141, R164: at a start every block stands at its reset values with
the recovery scan under way, the store kept but for the slot of a write that lost its supply; what a
failing core supply and RESET_N leave. The kept levels of the input pins, the values of the context before the
scan ends, and a cold start of a part still supplied, are the model's choice (log entries 3, 5 and 11); that
an abandoned conversion puts the ticks that started it back to 0 is read from R57, R59 and R62 (entry 24). -/
def Obligations.StartsAndResets : Prop :=
  (∀ (s : State),
      let fresh : ResetCause → State → Prop := fun cause t =>
        t.power = .scanning ∧ t.supply = Supply.initial cause s.supply.vhold
        ∧ t.gauge = Gauge.initial ∧ t.context = Context.initial ∧ t.exchange = Exchange.initial
        ∧ t.assessor = Assessor.initial ∧ t.line = Line.initial ∧ t.view = []
        ∧ t.admission = Admission.initial
        ∧ t.permits = Permits.initial s.permits.doorRaw s.permits.doorInput
        ∧ t.port = Port.initial ∧ t.settings = none ∧ t.journal.waiting = none
        ∧ t.journal.inFlight = none ∧ t.journal.intervalRunning = false ∧ t.journal.intervalTicks = 0
        ∧ t.pending = s.pending ∧ t.freeIndex = s.freeIndex
      (∃ t, exec .coldStart s = .next t ∧ fresh .cold t
        ∧ (∀ f, s.journal.inFlight = some f → t.journal.slots = s.journal.slots.set f.slot .failing)
        ∧ (s.journal.inFlight = none → t.journal.slots = s.journal.slots))
      ∧ (s.power = .resetHeld → s.journal.inFlight = none →
          ∃ t, exec .pinStart s = .next t ∧ fresh .pin t ∧ t.journal.slots = s.journal.slots)
      ∧ (s.power ≠ .resetHeld ∨ s.journal.inFlight ≠ none → exec .pinStart s = .next s))
  ∧ (∀ (s : State),
      (s.power = .unpowered → exec .coreSupplyFail s = .next s)
      ∧ (s.power ≠ .unpowered → ∃ t, exec .coreSupplyFail s = .next t
        ∧ t.power = .unpowered
        ∧ t.permits.drum = false ∧ t.permits.air = false ∧ t.permits.heat = false
        ∧ (∀ f, s.journal.inFlight = some f → t.journal.slots = s.journal.slots.set f.slot .failing)
        ∧ (s.journal.inFlight = none → t.journal.slots = s.journal.slots)
        ∧ t.journal.inFlight = none ∧ t.journal.waiting = none ∧ t.supply.carried = 0
        ∧ t.port.events = [] ∧ t.port.requests = [] ∧ t.view = []
        ∧ t.pending = s.pending ∧ t.freeIndex = s.freeIndex)
      ∧ (∀ n, 10 ≤ n → s.power ≠ .unpowered → exec (.resetN n) s = .next { s with
          power := .resetHeld
          permits := { s.permits with drum := false, air := false, heat := false }
          journal := { s.journal with waiting := none }
          gauge := { s.gauge with
            converting := false
            chargingTicks :=
              if s.gauge.converting = true ∧ s.gauge.gaugeState = .charging then 0 else s.gauge.chargingTicks
            refreshTicks :=
              if s.gauge.converting = true ∧ s.gauge.gaugeState = .armed then 0 else s.gauge.refreshTicks }
          line := { s.line with attempt := none, receiver := Receiver.initial }
          port := { s.port with sdo := [] } })
      ∧ (∀ n, n < 10 → exec (.resetN n) s = .next s))

/-- R3, R34, R35: the scan's end gives the writer the place after the newest record, or slot 0 and number 1
for a BLANK journal, hands on its ESTIMATED flag and its N0, starts the start-up reading, and loads the
context by the record's kind and, for a LOSS record, its cycle state. -/
def Obligations.RecoveryScanEnds : Prop :=
  (∀ (s : State), s.power = .scanning →
      ∃ t, exec .recoveryScan s = .next t
        ∧ t.power = .running ∧ t.journal.slots = s.journal.slots
        ∧ t.journal.inFlight = none ∧ t.journal.waiting = none
        ∧ (∀ i r, newestRecord s.journal.slots = some (i, r) →
            t.journal.nextSlot.val = (i + 1) % 32 ∧ t.journal.nextSeq = r.seq + 1
            ∧ t.assessor.estimateMark = r.body.estimated ∧ t.gauge.journalN0 = r.body.n0)
        ∧ (newestRecord s.journal.slots = none →
            t.journal.nextSlot = 0 ∧ t.journal.nextSeq = 1
            ∧ t.assessor.estimateMark = false ∧ t.gauge.journalN0 = 0)
        ∧ t.gauge.gaugeState = .measuring ∧ t.gauge.converting = true
        ∧ KeepsAllBut [.power, .context, .journal, .assessor, .gauge] s t)
  ∧ (∀ (s : State), s.power = .scanning →
      ∃ t, exec .recoveryScan s = .next t
        ∧ t.context.doorSeen = false ∧ t.context.plan = none
        ∧ t.context.stillStarted = false ∧ t.context.stillTicks = 0
        ∧ t.context.freshRunning = false ∧ t.context.freshTicks = 0
        ∧ (newestRecord s.journal.slots = none → t.context = Context.initial)
        ∧ (∀ i r, newestRecord s.journal.slots = some (i, r) →
            (r.body.kind = .closed → t.context = Context.initial)
            ∧ (r.body.kind ≠ .closed → t.context.progress = some r.body.progress
                ∧ t.context.still = r.body.still ∧ t.context.base = r.body.base
                ∧ t.context.stale = r.body.stale)
            ∧ ((r.body.kind = .stopped ∨ (r.body.kind = .loss ∧ r.body.cycleState = .stopped)) →
                t.context.cycleState = .stopped ∧ t.context.stopReason = some r.body.reason.byte)
            ∧ ((r.body.kind = .opened ∨ r.body.kind = .progress ∨ r.body.kind = .resumed) →
                t.context.cycleState = .interrupted ∧ t.context.stopReason = none
                ∧ t.context.aged = true)
            ∧ (r.body.kind = .loss → t.context.aged = r.body.aged
                ∧ (r.body.cycleState = .interrupted →
                    t.context.cycleState = .interrupted ∧ t.context.stopReason = none))))

/-- R33: a number is later than another at a distance of 1 to 2³¹ modulo 2³². Where the valid records
lie in the ring, as every step keeps them, their numbers are distinct and within 32 consecutive values,
and the newest record is the one that no other valid record is later than; there is one whenever any
record is valid. -/
def Obligations.NewestRecordIsWellDefined : Prop :=
  (∀ a b : BitVec 32, laterSeq b a = true ↔ 1 ≤ (b - a).toNat ∧ (b - a).toNat ≤ 2147483648)
  ∧ (∀ (next : Fin 32) (seq : BitVec 32) (slots : Vector Slot 32), RingAt next seq none slots →
      (∀ i j r q, (slots.get i).valid? = some r → (slots.get j).valid? = some q → i ≠ j →
        r.seq ≠ q.seq)
      ∧ (∀ i r, (slots.get i).valid? = some r → 1 ≤ (seq - r.seq).toNat ∧ (seq - r.seq).toNat ≤ 32)
      ∧ (∀ i r, newestRecord slots = some (i, r) ↔
          ∃ h : i < 32, (slots.get ⟨i, h⟩).valid? = some r
            ∧ ∀ j q, (slots.get j).valid? = some q → laterSeq q.seq r.seq = false)
      ∧ ((∃ i r, (slots.get i).valid? = some r) → newestRecord slots ≠ none))
  ∧ laterSeq 3 4294967290 = true

/-! ## Supply supervision and the loss sequence (R37 to R48) -/

/-- R37, R38, R42 to R44: a pulse, the comparator's reading and a dropout while mains is away move the supply
between HOLDING, DORMANT and RETURNING, without a second loss; a dropout in HOLDING or DORMANT, or one that a
pulse has come before, is the model's choice (log entries 8 and 12). -/
def Obligations.SupplyInputsAct : Prop :=
  (∀ (s : State), (s.power = .running ∨ s.power = .scanning) →
      let returns := (s.supply.supplyState = .holding ∧ s.supply.vhold ≠ .low)
        ∨ (s.supply.supplyState = .dormant ∧ s.supply.vhold = .ok)
      (¬ returns → exec .mainsZcPulse s
        = .next { s with supply := { s.supply with absence := 0, pulseSeen := true } })
      ∧ (returns → ∃ t, exec .mainsZcPulse s = .next t
        ∧ t.supply = { s.supply with
            absence := 0, pulseSeen := true, supplyState := .returning, settle := 0, settleOpen := false }
        ∧ (∀ b, s.journal.inFlight = none → s.journal.waiting = some b →
            t.journal.inFlight = some ⟨s.journal.nextSlot, makeRecord s.journal.nextSeq b⟩
            ∧ t.journal.waiting = none)
        ∧ ((s.journal.inFlight ≠ none ∨ s.journal.waiting = none) → t.journal = s.journal)
        ∧ KeepsAllBut [.supply, .journal] s t))
  ∧ (∀ (s : State) (x : VholdReading),
      ((s.power ≠ .running
          ∨ (x = .low ∧ s.supply.supplyState ≠ .holding ∧ s.supply.supplyState ≠ .returning)
          ∨ (x ≠ .low ∧ s.supply.supplyState ≠ .dormant)
          ∨ (x = .mid) ∨ (x = .ok ∧ 3 ≤ s.supply.absence)) →
        exec (.vholdReading x) s = .next { s with supply := { s.supply with vhold := x } })
      ∧ (s.power = .running → x = .low →
          (s.supply.supplyState = .holding ∨ s.supply.supplyState = .returning) →
          exec (.vholdReading x) s = .next { s with
            supply := { s.supply with vhold := .low, supplyState := .dormant, settle := 0, settleOpen := false }
            line := { s.line with queue := [], attempt := none, failures := 0 } })
      ∧ (s.power = .running → x = .ok → s.supply.supplyState = .dormant → s.supply.absence < 3 →
          ∃ t, exec (.vholdReading x) s = .next t
            ∧ t.supply = { s.supply with
                vhold := .ok, supplyState := .returning, settle := 0, settleOpen := false }
            ∧ (s.journal.inFlight = none → t.journal.waiting = none)
            ∧ KeepsAllBut [.supply, .journal] s t))
  ∧ (∀ (s : State), s.power = .running →
      (3 ≤ s.supply.absence → s.supply.supplyState = .returning →
        (s.supply.vhold ≠ .low → exec .dropout s = .next { s with supply := { s.supply with
          supplyState := .holding, settle := 0, settleOpen := false } })
        ∧ (s.supply.vhold = .low → exec .dropout s = .next { s with
            supply := { s.supply with supplyState := .dormant, settle := 0, settleOpen := false }
            line := { s.line with queue := [], attempt := none, failures := 0 } }))
      ∧ (3 ≤ s.supply.absence → (s.supply.supplyState = .holding ∨ s.supply.supplyState = .dormant) →
        exec .dropout s = .next s)
      ∧ (s.supply.absence < 3 → exec .dropout s = .next s))

/-- R8, R41, R45, R50, R57, R63, R66: the dropout in STARTING or ON_MAINS is a loss declaration: the permits drop;
the gauge is released, a conversion abandoned, and a start-up reading abandoned with the log-ratio UNKNOWN;
the pending requests are cancelled and every step released with its waiters DONE and STEP_LOST; the journal take
is made, the context moves to its state after a loss with a LOSS record, and any plan is discarded; the line is
vacated with the LEAVING frame and the view cleared; MAINS_LOST is posted, the loss timer starts, and a
CONFIGURE held in service is refused SUPPLY_LOST last. That the receiver starts anew, outside a character with an
idle count of 0, where an attempt is cut off, and takes the line to have been recessive where it begins to watch,
is the model's choice (log entry 23); that an abandoned conversion puts the ticks that started it back to 0 is
read from R57, R59 and R62 (entry 24). -/
def Obligations.LossDeclared : Prop :=
  ∀ (s : State), s.power = .running → 3 ≤ s.supply.absence → ExchangeSound s →
    (s.supply.supplyState = .starting ∨ s.supply.supplyState = .onMains) →
    let stilled : Gauge := { s.gauge with
      converting := false
      chargingTicks :=
        if s.gauge.converting = true ∧ s.gauge.gaugeState = .charging then 0 else s.gauge.chargingTicks
      refreshTicks :=
        if s.gauge.converting = true ∧ s.gauge.gaugeState = .armed then 0 else s.gauge.refreshTicks }
    let after : CycleState := match s.context.cycleState with
      | .running => .interrupted | .resuming => .interrupted | .noCycle => .noCycle
      | .stopped => .stopped | .interrupted => .interrupted
    let cleared : Admission :=
      { Admission.initial with waiters := s.admission.waiters.filter (fun w => w.step = 0) }
    let cancelled : Port := { s.port with
      events := s.port.events
        ++ stepCompletions .cancelled s.admission.pending
        ++ waiterCompletions (s.admission.waiters.filter (fun w => 0 < w.step)) }
    let lost : Port := if 1 ≤ heldLen s
      then postedPort (.stepLost 1 .loss 0) { s with port := cancelled, admission := cleared }
      else cancelled
    let told : Port := postedPort (.mainsLost after) { s with port := lost, admission := cleared }
    ∃ t, exec .dropout s = .next t
      ∧ t.permits = { s.permits with
          drum := false, air := false, heat := false, duty := 0, period := none, blank := false }
      ∧ t.gauge = (match s.gauge.gaugeState with
          | .measuring => { stilled with
              gaugeState := .released, releasedFromArmed := false, startup := .abandoned, logRatio := .unknown }
          | .charging => { stilled with gaugeState := .released, releasedFromArmed := false }
          | .armed => { stilled with gaugeState := .released, releasedFromArmed := true }
          | .idle => stilled
          | .fault => stilled
          | .released => stilled)
      ∧ t.admission = cleared
      ∧ t.context = { s.context with
          cycleState := after, plan := none, stillStarted := false, stillTicks := 0, freshRunning := false }
      ∧ t.assessor = { s.assessor with awaiting := false, stage := .provisional }
      ∧ t.exchange = (if s.exchange.newest? = none then s.exchange
          else s.exchange.mapBuffers Buffer.handedOver)
      ∧ (s.context.cycleState = .noCycle → t.journal = s.journal)
      ∧ (∀ p, s.context.cycleState ≠ .noCycle → s.context.progress = some p → t.journal = queuedJournal
          (recordOf .loss
            (if s.context.cycleState = .stopped then .stop (s.context.stopReason.getD 0) else .zero)
            t.context p t.gauge) s)
      ∧ t.line = { s.line with
          mode := .off
          queue := if s.supply.vhold = .low then []
            else [⟨.released, 0, sumFeeder (cfg s) 1 (heldLen s), sumDuct (cfg s) 1 (heldLen s), true⟩]
          attempt := none, failures := 0, presenceRunning := false, presenceTicks := 0
          joinRunning := false, joinTicks := 0, joinSlotDone := false
          receiver := if s.line.mode = .off ∨ s.line.attempt ≠ none then Receiver.initial
            else s.line.receiver }
      ∧ t.view = []
      ∧ t.supply = { s.supply with
          supplyState := if s.supply.vhold = .low then .dormant else .holding
          settle := 0, settleOpen := false, lossRunning := true, lossTicks := 0, lossReading := 0 }
      ∧ (s.port.inService = none → t.port = told)
      ∧ (∀ r, s.port.inService = some r → t.port = { told with
          inService := none
          events := told.events ++ [.completion r.tag r.kind .supplyLost r.stepByte 0] })
      ∧ KeepsAllBut [.permits, .gauge, .admission, .context, .journal, .exchange, .assessor, .line,
          .view, .supply, .port] s t

/-- R46 to R48, R102: the confirmation that ends STARTING, and the warm return of a part with no open cycle. That
neither does anything before the settle count has come to 50 is log entry 8. -/
def Obligations.ReturnsConfirmed : Prop :=
  (∀ (s : State), s.power = .running → s.supply.supplyState = .starting →
      (s.supply.settle < 50 → exec .returnConfirmation s = .next s)
      ∧ (50 ≤ s.supply.settle → s.settings = none → exec .returnConfirmation s = .next { s with
        supply := { s.supply with supplyState := .onMains, settle := 0, settleOpen := false } })
      ∧ (50 ≤ s.supply.settle → s.settings ≠ none → ∃ t, exec .returnConfirmation s = .next t
        ∧ t.supply = { s.supply with supplyState := .onMains, settle := 0, settleOpen := false }
        ∧ t.line.mode = .joining ∧ t.line.queue = [] ∧ t.line.attempt = none ∧ t.line.failures = 0
        ∧ t.line.presenceRunning = false ∧ t.line.joinRunning = true ∧ t.line.joinTicks = 0
        ∧ t.line.duplicateMark = s.line.duplicateMark ∧ t.view = []
        ∧ KeepsAllBut [.supply, .line, .view] s t))
  ∧ (∀ (s : State), s.power = .running → s.supply.supplyState = .returning →
      let back : Port := postedPort (.mainsBack s.supply.lossReading) s
      (s.supply.settle < 50 → exec .warmReturn s = .next s)
      ∧ (50 ≤ s.supply.settle → ∃ t, exec .warmReturn s = .next t
        ∧ t.supply.supplyState = .onMains ∧ t.supply.lossRunning = false
        ∧ t.supply.lossReading = s.supply.lossReading ∧ t.supply.settle = 0
        ∧ t.context.stillStarted = true
        ∧ (s.gauge.gaugeState = .released → t.gauge = { s.gauge with
            gaugeState := .charging, n0 := 0, releasedFromArmed := false, previous := none,
            chargingTime := 0, chargingTicks := 0, converting := false })
        ∧ (s.gauge.gaugeState ≠ .released → t.gauge = s.gauge)
        ∧ (∃ more, t.port.events = back.events ++ more)
        ∧ (s.settings = none → t.port = back ∧ t.line.mode = s.line.mode
            ∧ t.context = { s.context with stillStarted := true } ∧ t.journal = s.journal
            ∧ t.supply.carried = min 65535 (s.supply.carried + s.supply.lossReading))
        ∧ (s.settings ≠ none → t.line.mode = .joining ∧ t.line.queue = [] ∧ t.view = []
            ∧ t.supply.carried = s.supply.carried)
        ∧ (s.settings ≠ none → s.context.cycleState = .noCycle →
            t.context = { s.context with stillStarted := true } ∧ t.journal = s.journal
            ∧ t.exchange = s.exchange
            ∧ t.port = postedPort (.plan
                { plan :=
                    { action := .noAction, source := .timer, offTime := .seconds s.supply.lossReading
                      still := none, reheat := none, figures := ⟨none, none, none, none⟩, aged := false
                      estimated := estimatedBy (.seconds s.supply.lossReading) s, gaugeFlag := false
                      base := none, stage := .provisional }
                  stale := s.context.stale, aged := s.context.aged, doorSeen := s.context.doorSeen
                  cycleId := (s.context.progress.map (·.cycleId)).getD 0, stopReason := none })
                { s with port := back })
        ∧ KeepsAllBut [.supply, .context, .gauge, .line, .view, .port, .assessor, .journal,
            .exchange] s t))

/-- R12, R45, R120, R128, R143: the timers' own moments: a second of the loss timer, a second of waiting,
the end of the motor-start spacing and of the heat ramp, and the end of an on-time. That the command of a
timer that is stopped, or has not come to its moment, changes nothing is the model's choice (log entries 2
and 8). -/
def Obligations.TimersReachTheirMoments : Prop :=
  ∀ (s : State), s.power = .running →
    (s.supply.lossRunning = true → 100 ≤ s.supply.lossTicks →
      exec .lossTimerSecond s = .next { s with supply := { s.supply with
        lossReading := min 65535 (s.supply.lossReading + 1), lossTicks := 0 } })
    ∧ ((s.supply.lossRunning = false ∨ s.supply.lossTicks < 100) → exec .lossTimerSecond s = .next s)
    ∧ (∀ n, ∃ t, exec (.waitingAgeSecond n) s = .next t
        ∧ t.admission = { s.admission with pending := t.admission.pending }
        ∧ t.admission.pending.length = s.admission.pending.length
        ∧ (∀ (i : Nat) (p : StepRequest), s.admission.pending[i]? = some p →
            t.admission.pending[i]? = some
              (if p.step = n ∧ 100 ≤ p.ageTicks then { p with age := min 65535 (p.age + 1), ageTicks := 0 }
                else p))
        ∧ KeepsAllBut [.admission] s t)
    ∧ (∀ k, s.admission.spacing = some k →
        ((cfg s).spacing * 100 ≤ k →
          exec .spacingElapsed s = .next { s with admission := { s.admission with spacing := none } })
        ∧ (k < (cfg s).spacing * 100 → exec .spacingElapsed s = .next s))
    ∧ (s.admission.spacing = none → exec .spacingElapsed s = .next s)
    ∧ (∀ k, s.admission.ramp = some k →
        ((cfg s).rampInterval * 100 ≤ k →
          exec .rampElapsed s = .next { s with admission := { s.admission with ramp := none } })
        ∧ (k < (cfg s).rampInterval * 100 → exec .rampElapsed s = .next s))
    ∧ (s.admission.ramp = none → exec .rampElapsed s = .next s)
    ∧ (∀ n, s.permits.period = some n →
        ((cfg s).heatPeriod * 100 * s.permits.duty / 4 ≤ n →
          exec .onTimeEnd s = .next { s with permits := { s.permits with heat := false } })
        ∧ (n < (cfg s).heatPeriod * 100 * s.permits.duty / 4 → exec .onTimeEnd s = .next s))

/-! ## The off-time gauge (R56 to R68) -/

/-- R58, R65, R66: the start-up reading's end starts the still timer and gives CHARGING with its count or
FAULT for SATURATED; the log-ratio is taken at once from the journal's N0, and a CONFIGURE held in
service is then completed. -/
def Obligations.StartUpReadingEnds : Prop :=
  ∀ (s : State) (n : BitVec 16), s.power = .running → s.gauge.gaugeState = .measuring →
    (∀ r, s.port.inService = some r → ∃ t, exec (.startupReadingEnd n) s = .next t
      ∧ t.context.stillStarted = true ∧ t.port.inService = none
      ∧ t.gauge.gaugeState = (if n = 65535 then .fault else .charging)
      ∧ t.gauge.startup = (if n = 65535 then .saturated else .count n.toNat)
      ∧ t.gauge.logRatio = logRatioOf s.gauge.journalN0 t.gauge.startup
      ∧ ∃ result map, .completion r.tag r.kind result r.stepByte map ∈ t.port.events)
    ∧ (s.port.inService = none → n ≠ 65535 → exec (.startupReadingEnd n) s = .next { s with
      context := { s.context with stillStarted := true }
      gauge := { s.gauge with
        gaugeState := .charging, n0 := 0, releasedFromArmed := false, previous := none,
        chargingTime := 0, chargingTicks := 0, converting := false,
        startup := .count n.toNat, logRatio := logRatioOf s.gauge.journalN0 (.count n.toNat) } })
    ∧ (s.port.inService = none → n = 65535 → exec (.startupReadingEnd n) s = .next { s with
      context := { s.context with stillStarted := true }
      gauge := { s.gauge with
        gaugeState := .fault, converting := false, startup := .saturated, logRatio := .unknown }
      port := postedPort (.gaugeFault .saturated) s })

/-- R66 to R68: the log-ratio by its cases in their order, 256 k + T[j] and never above 2,036, and the off-time
floor(L × h / 256), at most 14,315 s. -/
def Obligations.LogRatioAndOffTime : Prop :=
  ((∀ n0 : Nat, logRatioOf n0 .saturated = .unknown ∧ logRatioOf n0 .abandoned = .unknown)
    ∧ (∀ n0 n1 : Nat,
        (n0 < 4096 → logRatioOf n0 (.count n1) = .unknown)
        ∧ (4096 ≤ n0 → n1 < 16 → logRatioOf n0 (.count n1) = .over)
        ∧ (4096 ≤ n0 → 16 ≤ n1 → n0 ≤ n1 → logRatioOf n0 (.count n1) = .ratio 0))
    ∧ (∀ n0 n1 k : Nat, 4096 ≤ n0 → n0 < 65535 → 16 ≤ n1 → n1 < n0 →
        n1 * 2 ^ k ≤ n0 → n0 < n1 * 2 ^ (k + 1) →
        (8 ≤ k → logRatioOf n0 (.count n1) = .over)
        ∧ (k < 8 → ∃ j x, j = 16 * (n0 - n1 * 2 ^ k) / (n1 * 2 ^ k) ∧ j < 16
            ∧ [0, 22, 43, 63, 82, 100, 117, 134, 149, 164, 179, 193, 206, 219, 232, 244][j]? = some x
            ∧ logRatioOf n0 (.count n1) = .ratio (256 * k + x) ∧ 256 * k + x ≤ 2036)))
  ∧ (∀ (c : Settings) (l : Nat), l ≤ 2036 →
      gaugeOffTime (.ratio l) c.clamped.halfLife = .seconds (l * c.clamped.halfLife / 256)
      ∧ l * c.clamped.halfLife / 256 ≤ 14315
      ∧ gaugeOffTime .over c.clamped.halfLife = .over
      ∧ gaugeOffTime .unknown c.clamped.halfLife = .unknown)

/-- R59 to R62, R65: charging conversions start each second and arm, fault or are kept, a count that does not
arm the gauge becoming the previous count; refreshes follow the charge or fault. That a steady count below
4,096 of the conversion started at charging time 60 is LOW_COUNT and not NOT_SETTLED is the model's choice
(log entry 24), and that a start before the hundredth or the 6,000th tick does nothing is log entry 8. -/
def Obligations.ConversionsJudged : Prop :=
  (∀ (s : State), s.power = .running → s.gauge.gaugeState = .charging →
      (s.gauge.converting = false → s.gauge.chargingTime < 60 →
        (100 ≤ s.gauge.chargingTicks →
          exec .chargingConversionStart s = .next { s with gauge := { s.gauge with
            chargingTime := s.gauge.chargingTime + 1, chargingTicks := 0, converting := true } })
        ∧ (s.gauge.chargingTicks < 100 → exec .chargingConversionStart s = .next s))
      ∧ (s.gauge.converting = true → ∀ n : BitVec 16,
        let faulted : GaugeCause → Option Nat → Host.Outcome State Fault Refusal := fun cause q => .next { s with
          gauge := { s.gauge with gaugeState := .fault, previous := q, converting := false }
          port := postedPort (.gaugeFault cause) s }
        let near := ∃ q, s.gauge.previous = some q ∧ n.toNat ≤ q + n.toNat / 256 ∧ q ≤ n.toNat + n.toNat / 256
        (n = 65535 → exec (.chargingConversionEnd n) s = faulted .saturated s.gauge.previous)
        ∧ (n ≠ 65535 → near → 4096 ≤ n.toNat →
            exec (.chargingConversionEnd n) s = .next { s with gauge := { s.gauge with
              gaugeState := .armed, n0 := n.toNat, refreshTicks := 0, converting := false } })
        ∧ (n ≠ 65535 → near → n.toNat < 4096 →
            exec (.chargingConversionEnd n) s = faulted .lowCount (some n.toNat))
        ∧ (n ≠ 65535 → ¬ near → 60 ≤ s.gauge.chargingTime →
            exec (.chargingConversionEnd n) s = faulted .notSettled (some n.toNat))
        ∧ (n ≠ 65535 → ¬ near → s.gauge.chargingTime < 60 →
            exec (.chargingConversionEnd n) s = .next { s with gauge := { s.gauge with
              previous := some n.toNat, converting := false } })))
  ∧ (∀ (s : State), s.power = .running → s.gauge.gaugeState = .armed →
      (s.gauge.converting = false →
        (6000 ≤ s.gauge.refreshTicks → exec .refreshStart s = .next { s with gauge := { s.gauge with
          refreshTicks := 0, converting := true } })
        ∧ (s.gauge.refreshTicks < 6000 → exec .refreshStart s = .next s))
      ∧ (s.gauge.converting = true → ∀ n : BitVec 16,
        let faulted : GaugeCause → Host.Outcome State Fault Refusal := fun cause => .next { s with
          gauge := { s.gauge with gaugeState := .fault, converting := false }
          port := postedPort (.gaugeFault cause) s }
        (n = 65535 → exec (.refreshEnd n) s = faulted .saturated)
        ∧ (n.toNat < 4096 → exec (.refreshEnd n) s = faulted .lowCount)
        ∧ (n ≠ 65535 → 4096 ≤ n.toNat → exec (.refreshEnd n) s = .next { s with gauge := { s.gauge with
            n0 := n.toNat, converting := false } })))

/-! ## Plans (R74, R85 to R87) -/

/-- R74: the reheat extension of every plan of an open cycle that carries one is the smaller of
floor(S × Kr / 16) and the cap, so at most the cap and 0 when the factor or the cap is 0; it lengthens
the heat figure of the HEAT row, up to 65,535, and no figure of another row. -/
def Obligations.ReheatExtendsTheHeatFigure : Prop :=
  ∀ (s : State) (source : OffSource) (off : OffTime) (estimated : Bool) (p : Progress) (rx : Nat),
    s.context.still ≤ 65535 → (cfg s).reheatFactor ≤ 16 →
    (makePlan s source off estimated p).reheat = some rx →
    rx = min (s.context.still * (cfg s).reheatFactor / 16) (cfg s).reheatCap
    ∧ s.context.still * (cfg s).reheatFactor ≤ 1048560
    ∧ s.context.still * (cfg s).reheatFactor / 16 ≤ 65535
    ∧ rx ≤ (cfg s).reheatCap
    ∧ ((cfg s).reheatFactor = 0 ∨ (cfg s).reheatCap = 0 → rx = 0)
    ∧ (p.phase = .heat →
        (makePlan s source off estimated p).figures.heat = some (min (p.remaining + rx) 65535))
    ∧ (p.phase ≠ .heat → (makePlan s source off estimated p).figures.heat = none
        ∧ ∀ (t : State) (c : Settings), s.settings = some c →
            t = { s with settings := some { c with reheatFactor := 0, reheatCap := 0 } } →
            (makePlan t source off estimated p).figures = (makePlan s source off estimated p).figures)

/-! ## The bank line (R91 to R105) -/

/-- R91 to R93, R99, R105: at an idle count of 12, an attempt of the head frame fills its twelve bytes from the
station's state, so that they carry a valid frame of this station with its present totals, prefix and urgency
and the queued kind fields; in OFF the LEAVING frame alone is sent, with no totals; otherwise nothing begins. -/
def Obligations.AttemptDescribesTheStation : Prop :=
  (∀ (s : State) (f : QueuedFrame) (rest : List QueuedFrame) (c : Settings), s.power = .running →
      s.line.attempt = none → s.line.queue = f :: rest → s.line.receiver.idleCount = 12 →
      s.settings = some c → c.station < 16 →
      f.leaving = false → f.feederDelta ≤ 255 → f.ductDelta ≤ 255 → f.step ≤ 6 → heldLen s ≤ 6 →
      ownFeeder s ≤ 4095 → ownDuct s ≤ 4095 → urgency s ≤ 15 →
      (∀ n u k, s.admission.claim = .holding n u k → n ≤ 6 ∧ stepFeeder c n ≤ 255 ∧ stepDuct c n ≤ 255) →
      (s.line.mode = .banked ∨ s.line.mode = .alone ∨ (∃ cause, s.line.mode = .solo cause)
        ∨ (s.line.mode = .joining ∧ f.kind = .presence)) →
      ∃ (t : State) (a : Attempt) (g : Frame), exec .attemptStart s = .next t
        ∧ t.line = { s.line with attempt := some a }
        ∧ a.frame = f ∧ a.heldWithdrawn = none ∧ a.bytes = g.bytes ∧ frameOf a.bytes = some g
        ∧ g.number = c.station ∧ g.urgency = urgency s ∧ g.arb = (15 - urgency s) * 16 + c.station
        ∧ g.kind = f.kind ∧ g.feeder = ownFeeder s ∧ g.duct = ownDuct s ∧ g.prefixLen = heldLen s
        ∧ g.station = (if s.line.mode = .joining then .joining
            else if s.admission.pending ≠ [] then .waiting
            else if s.admission.held ≠ [] then .running
            else if s.context.cycleState = .stopped then .stopped else .idle)
        ∧ (f.kind ≠ .presence → g.step = f.step ∧ g.feederDelta.toNat = f.feederDelta
            ∧ g.ductDelta.toNat = f.ductDelta)
        ∧ (f.kind = .presence → (∀ n u k, s.admission.claim = .holding n u k → g.step = n
              ∧ g.feederDelta.toNat = stepFeeder c n ∧ g.ductDelta.toNat = stepDuct c n)
            ∧ ((∀ n u k, s.admission.claim ≠ .holding n u k) → g.step = 0 ∧ g.feederDelta = 0
                ∧ g.ductDelta = 0))
        ∧ KeepsAllBut [.line] s t)
  ∧ (∀ (s : State), s.power = .running →
      (∀ (f : QueuedFrame) (rest : List QueuedFrame) (c : Settings), s.line.attempt = none →
        s.line.queue = f :: rest → s.line.receiver.idleCount = 12 → s.settings = some c →
        s.line.mode = .off → f.leaving = true → s.supply.supplyState ≠ .dormant → f.kind ≠ .presence →
        ∃ (t : State) (g : Frame), exec .attemptStart s = .next t
          ∧ t.line = { s.line with attempt := some ⟨f, g.bytes, none⟩ }
          ∧ g.station = .leaving ∧ g.feeder = 0 ∧ g.duct = 0 ∧ g.prefixLen = 0 ∧ g.kind = f.kind
          ∧ g.step = f.step ∧ g.arb = (15 - urgency s) * 16 + c.station
          ∧ (f.feederDelta ≤ 255 → g.feederDelta.toNat = f.feederDelta)
          ∧ KeepsAllBut [.line] s t)
      ∧ ((s.line.attempt ≠ none ∨ s.line.queue = [] ∨ s.line.receiver.idleCount ≠ 12
          ∨ ∃ f rest, s.line.queue = f :: rest ∧ ((s.line.mode = .joining ∧ f.kind ≠ .presence)
              ∨ (s.line.mode = .off ∧ (f.leaving = false ∨ s.supply.supplyState = .dormant)))) →
        exec .attemptStart s = .next s))

/-- R94: byte 0 carries A most significant bit first, and of two stations the lower A, which is the
higher urgency and then the lower number, sends the first differing bit dominant. -/
def Obligations.LowestArbitrationByteWins : Prop :=
  (∀ u n : Nat, u ≤ 15 → n ≤ 15 →
    arbitrationByte u n ≤ 255 ∧ arbitrationByte u n / 16 = 15 - u ∧ arbitrationByte u n % 16 = n)
  ∧ (∀ u n v m : Nat, u ≤ 15 → n ≤ 15 → v ≤ 15 → m ≤ 15 →
    (arbitrationByte u n < arbitrationByte v m ↔ v < u ∨ (u = v ∧ n < m)))
  ∧ (∀ a b : Nat, a < 256 → b < 256 → a < b → ∃ i, i < 10
      ∧ (charLevels (reverseByte (byte8 a))).take i = (charLevels (reverseByte (byte8 b))).take i
      ∧ (charLevels (reverseByte (byte8 a)))[i]? = some false
      ∧ (charLevels (reverseByte (byte8 b)))[i]? = some true)

/-- R94 to R96, R100, R103, R138: a lost arbitration leaves the frame and the failure count; a bit error, or a
line held for 100 ms while a frame waits, adds a failure; a CLAIM withdrawn under attempt is removed, or counts
as sent where a failure does; the eighth failure in JOINING, BANKED, ALONE and SOLO with NO_PEERS is a line
fault, with the entry into SOLO; under DUPLICATE_STATION, and every failure under LINE_FAULT, counts the frame as
sent; in OFF the eighth discards it. The order of the events at the entry into SOLO, LINE first and the orphans
last, is the model's choice (log entry 14). Read from the rules, which do not say so (log entry 19): a failure
count of 8 carried into DUPLICATE_STATION has the next failure count the frame as sent; the eighth failure there
of a CLAIM whose WITHDRAWN is held adds the WITHDRAWN; a line fault in JOINING posts its LINE event and starts
a stopped presence timer from 0; the eighth failure of a CLAIM whose WITHDRAWN is held makes the line fault
first, and the CLAIM is then removed with its failure count and its WITHDRAWN discarded. That a waiter for a
marked step at or below the solo heat cap waits on, where the entry into SOLO releases the marked steps above it,
is the model's reading of R133 and R134 (log entry 15). That an attempt's levels reach the receiver together at
its end is log entry 23. -/
def Obligations.AttemptFails : Prop :=
  ∀ (s : State), s.power = .running → LineSound s →
    (∀ (a : Attempt) (rest : List QueuedFrame) (bit : Nat), s.line.attempt = some a →
      s.line.queue = a.frame :: rest →
      let sent := frameLevels a.bytes
      let read := (s.line.receiver.run (sent.take bit ++ [! sent.getD bit true])).1
      let ended : Line := { s.line with attempt := none, receiver := read }
      let counts := s.line.mode = .solo .lineFault
        ∨ (s.line.mode = .solo .duplicateStation ∧ 7 ≤ s.line.failures)
      let errs := bit < 120 ∧ (10 ≤ bit ∨ sent.getD bit false = false)
      (bit < 10 → sent[bit]? = some true →
        (a.heldWithdrawn = none → exec (.arbitrationLost bit) s = .next { s with line := ended })
        ∧ (a.heldWithdrawn ≠ none → exec (.arbitrationLost bit) s = .next { s with
            line := { ended with queue := rest, failures := 0 }
            admission := { s.admission with testAtTick := true } }))
      ∧ ((10 ≤ bit ∨ sent[bit]? ≠ some true) → exec (.arbitrationLost bit) s = .next s)
      ∧ (errs → s.line.failures < 7 → s.line.mode ≠ .solo .lineFault →
          (a.heldWithdrawn = none → exec (.bitError bit) s = .next { s with
            line := { ended with failures := s.line.failures + 1 } })
          ∧ (a.heldWithdrawn ≠ none → exec (.bitError bit) s = .next { s with
              line := { ended with queue := rest, failures := 0 }
              admission := { s.admission with testAtTick := true } }))
      ∧ (errs → counts →
          let gone : Line := { ended with
            queue := rest, failures := 0, presenceRunning := true, presenceTicks := 0 }
          (a.heldWithdrawn = none → (a.frame.kind ≠ .claim ∨ announcedStep s = none) →
            exec (.bitError bit) s = .next { s with line := gone })
          ∧ (∀ n u, a.heldWithdrawn = none → a.frame.kind = .claim → a.frame.step = n →
              s.admission.claim = .sending n u → exec (.bitError bit) s = .next { s with
                line := gone, admission := { s.admission with claim := .holding n u 0 } })
          ∧ (∀ w, a.heldWithdrawn = some w → w.kind = .withdrawn → announcedStep s = none →
              exec (.bitError bit) s = .next { s with
                line := { gone with queue := rest ++ [w] }
                admission := { s.admission with testAtTick := true } }))
      ∧ (errs → 7 ≤ s.line.failures → s.line.mode = .off → a.heldWithdrawn = none →
          exec (.bitError bit) s = .next { s with line := { ended with queue := rest, failures := 0 } })
      ∧ (errs → 7 ≤ s.line.failures → LoadsSound s →
          let eighth : State := { s with line := { ended with failures := 8 } }
          let window : State := { eighth with line := { eighth.line with
            joinRunning := false, presenceRunning := true
            presenceTicks := if s.line.presenceRunning then s.line.presenceTicks else 0 } }
          let told : Port := postedPort (.line (.solo .lineFault) .lineFault) s
          let entry : State → Prop := fun x => SoloEntered .lineFault .lineFault
            (if s.line.mode = .joining then window else eighth) x
          let enters := s.line.mode = .banked ∨ s.line.mode = .alone ∨ s.line.mode = .joining
          (a.heldWithdrawn = none →
            (s.line.mode = .solo .noPeers → exec (.bitError bit) s = .next { eighth with
              line := { eighth.line with mode := .solo .lineFault }
              port := told })
            ∧ (enters → ∃ t, exec (.bitError bit) s = .next t ∧ entry t))
          ∧ (a.heldWithdrawn ≠ none →
            (s.line.mode = .solo .noPeers → exec (.bitError bit) s = .next { s with
              line := { ended with queue := rest, failures := 0, mode := .solo .lineFault }
              admission := { s.admission with testAtTick := true }
              port := told })
            ∧ (enters → announcedStep s = none →
                ∃ x, entry x ∧ x.line.queue.head? = some a.frame
                  ∧ exec (.bitError bit) s = .next { x with
                      line := { x.line with queue := x.line.queue.tail, failures := 0 }
                      admission := { x.admission with testAtTick := true } }))))
    ∧ (∀ (f : QueuedFrame) (rest : List QueuedFrame), s.line.attempt = none → s.line.queue = f :: rest →
      let waits := s.line.mode = .banked ∨ s.line.mode = .alone ∨ (∃ cause, s.line.mode = .solo cause)
        ∨ (s.line.mode = .joining ∧ f.kind = .presence)
        ∨ (s.line.mode = .off ∧ f.leaving = true ∧ s.supply.supplyState ≠ .dormant)
      let again : Line := { s.line with receiver := { s.line.receiver with heldTicks := 0 } }
      let counts := s.line.mode = .solo .lineFault
        ∨ (s.line.mode = .solo .duplicateStation ∧ 7 ≤ s.line.failures)
      ((¬ waits ∨ s.line.receiver.heldTicks < 10) → exec .lineHeld s = .next s)
      ∧ (waits → 10 ≤ s.line.receiver.heldTicks →
        (s.line.failures < 7 → s.line.mode ≠ .solo .lineFault →
          exec .lineHeld s = .next { s with line := { again with failures := s.line.failures + 1 } })
        ∧ (counts →
            let gone : Line := { again with
              queue := rest, failures := 0, presenceRunning := true, presenceTicks := 0 }
            ((f.kind ≠ .claim ∨ announcedStep s = none) → exec .lineHeld s = .next { s with line := gone })
            ∧ (∀ n u, f.kind = .claim → f.step = n → s.admission.claim = .sending n u →
                exec .lineHeld s = .next { s with
                  line := gone, admission := { s.admission with claim := .holding n u 0 } }))
        ∧ (7 ≤ s.line.failures → s.line.mode = .off →
            exec .lineHeld s = .next { s with line := { again with queue := rest, failures := 0 } })
        ∧ (7 ≤ s.line.failures → LoadsSound s →
            let eighth : State := { s with line := { again with failures := 8 } }
            (s.line.mode = .solo .noPeers → exec .lineHeld s = .next { eighth with
              line := { eighth.line with mode := .solo .lineFault }
              port := postedPort (.line (.solo .lineFault) .lineFault) s })
            ∧ (s.line.mode = .banked ∨ s.line.mode = .alone →
                ∃ t, exec .lineHeld s = .next t ∧ SoloEntered .lineFault .lineFault eighth t)
            ∧ (s.line.mode = .joining →
                ∃ t, exec .lineHeld s = .next t
                  ∧ SoloEntered .lineFault .lineFault { eighth with line := { eighth.line with
                      joinRunning := false, presenceRunning := true
                      presenceTicks := if s.line.presenceRunning then s.line.presenceTicks else 0 } } t))))

/-- R98, R100, R103, R125: a frame sent leaves the queue with its failures cleared and restarts the presence
timer, and in SOLO with LINE_FAULT ends the fault; a CLAIM sent starts its hold, or, if it was withdrawn, is
followed by the WITHDRAWN held back, under LINE_FAULT too. That the attempt's levels reach the receiver together
at its end is the model's choice (log entry 23). -/
def Obligations.FrameSentIsCounted : Prop :=
  ∀ (s : State) (a : Attempt) (rest : List QueuedFrame), s.power = .running → LineSound s →
    s.line.attempt = some a → s.line.queue = a.frame :: rest →
    let read : Receiver := { (s.line.receiver.run (frameLevels a.bytes)).1 with own := true }
    let sent : Line := { s.line with
      queue := rest, attempt := none, failures := 0, presenceRunning := true, presenceTicks := 0,
      receiver := read }
    let working := s.line.mode ≠ .off ∧ s.line.mode ≠ .solo .lineFault
    let fault := s.line.mode = .solo .lineFault
    let found : LineMode := if s.view ≠ [] then .banked
      else if (cfg s).bankSize = 1 then .alone else .solo .noPeers
    let cleared : Port := postedPort (.line found .faultCleared) s
    (working → a.heldWithdrawn = none → (a.frame.kind ≠ .claim ∨ announcedStep s = none) →
      exec .frameSent s = .next { s with line := sent })
    ∧ (s.line.mode = .off → s.admission.claim = .unannounced → a.heldWithdrawn = none →
      exec .frameSent s = .next { s with line := { s.line with
        queue := rest, attempt := none, failures := 0, receiver := read } })
    ∧ (fault → a.heldWithdrawn = none → (a.frame.kind ≠ .claim ∨ announcedStep s = none) →
      exec .frameSent s = .next { s with line := { sent with mode := found }, port := cleared })
    ∧ (∀ n u, a.heldWithdrawn = none → a.frame.kind = .claim → a.frame.step = n →
        s.admission.claim = .sending n u →
        (working → exec .frameSent s = .next { s with
          line := sent
          admission := { s.admission with claim := .holding n u 0 } })
        ∧ (fault → exec .frameSent s = .next { s with
          line := { sent with mode := found }
          port := cleared
          admission := { s.admission with claim := .holding n u 0 } }))
    ∧ (∀ w, a.heldWithdrawn = some w → a.frame.kind = .claim → w.kind = .withdrawn →
        s.admission.claim = .unannounced →
        (working → exec .frameSent s = .next { s with
          line := { sent with queue := rest ++ [w] }
          admission := { s.admission with testAtTick := true } })
        ∧ (fault → exec .frameSent s = .next { s with
          line := { sent with mode := found, queue := rest ++ [w] }
          port := cleared
          admission := { s.admission with testAtTick := true } }))

/-- R90, R91, R103, R108 to R110: characters sent back to back to a receiver at rest are gathered as they were
sent; when twelve of them carry a valid frame of another station and the line has rested 3 bit times, that
station's entry is written whole from the frame, with the claim of a CLAIM or PRESENCE that names a step; the
other entries stay; the first entry moves ALONE and NO_PEERS to BANKED with the LINE event PEER_HEARD; the
view change follows, and then a TAKEN of DRUM or AIR restarts the motor-start spacing and withdraws a claim for
DRUM or AIR. -/
def Obligations.PeerFrameWritesTheView : Prop :=
  (∀ (bytes : List Byte) (r : Receiver), r.AtRest → bytes ≠ [] → bytes.length ≤ 12 →
    r.run (frameLevels bytes)
      = ({ r with chars := bytes.map fun b => ⟨b, false⟩, idleCount := 0 }, []))
  ∧ (∀ (s : State) (f : Frame) (bytes : List Byte) (quiet : Nat), s.power = .running → LineSound s →
    s.line.mode ≠ .off → s.line.attempt = none → s.line.receiver.AtRest → bytes.length = 12 → 3 ≤ quiet →
    frameOf bytes = some f → f.number ≠ (cfg s).station →
    let number := f.arb % 16
    let written : PeerEntry :=
      { number := number, status := .present, station := f.station, feeder := f.feeder, duct := f.duct
        prefixLen := f.prefixLen, urgency := 15 - f.arb / 16
        claim := if (f.kind = .claim ∨ f.kind = .presence) ∧ 1 ≤ f.step
          then some ⟨f.step, f.feederDelta.toNat, f.ductDelta.toNat, f.arb⟩ else none
        heardAge := 0 }
    let created := ∀ e ∈ s.view, e.number ≠ number
    ∃ (view : List PeerEntry) (t : State), exec (.frameReceived (frameLevels bytes) quiet) s = .next t
      ∧ view.Pairwise (fun x y => x.number < y.number)
      ∧ (∀ e, e ∈ view ↔ e = written ∨ (e ∈ s.view ∧ e.number ≠ number))
      ∧ (let heard : State := { s with
            view := view, line := { s.line with receiver := s.line.receiver.rested quiet } }
        let known : State := if created ∧ (s.line.mode = .alone ∨ s.line.mode = .solo .noPeers)
          then { heard with
            line := { heard.line with mode := .banked }
            port := postedPort (.line .banked .peerHeard) s }
          else heard
        let changed := viewChange known
        let started : State := { changed with admission := { changed.admission with spacing := some 0 } }
        ((f.kind ≠ .taken ∨ (f.step ≠ 1 ∧ f.step ≠ 2)) → t = changed)
        ∧ (f.kind = .taken → (f.step = 1 ∨ f.step = 2) → WithdrawnWhen (fun n => n ≤ 2) started t)
        ∧ t.line = { known.line with
            queue := t.line.queue, attempt := t.line.attempt, failures := t.line.failures }
        ∧ KeepsAllBut [.view, .line, .port, .admission, .permits] s t))

/-- R90, R91, R97, R98, R104: a short frame, a frame of thirteen characters, one with a framing error, one that
fails a check of R97 and this station's own frame change nothing but the receiver; a frame of this station's
number that it did not send sets the duplicate mark and gives SOLO with DUPLICATE_STATION, once; in OFF every
frame is discarded, and without a LEAVING frame the receiver does not watch. That a further such frame changes
nothing in JOINING too, and the presence timer at the window's early end, are the model's choice (log entry 19),
and so is the order of the events at the entry into SOLO (log entry 14), and that a waiter for a marked step at or
below the solo heat cap waits on there (log entry 15). -/
def Obligations.OtherFramesReceived : Prop :=
  ∀ (s : State) (bytes : List Byte) (quiet : Nat), s.power = .running → LineSound s →
    s.line.attempt = none → s.line.receiver.AtRest → 3 ≤ quiet →
    let levels := frameLevels bytes
    let judged : State := { s with line := { s.line with receiver := s.line.receiver.rested quiet } }
    let own := fun f : Frame => frameOf bytes = some f ∧ bytes.length = 12 ∧ f.number = (cfg s).station
    (s.line.mode ≠ .off → bytes ≠ [] →
      (bytes.length < 12 ∨ (bytes.length = 12 ∧ frameOf bytes = none)
        ∨ (bytes.length = 13 ∧ 30 ≤ quiet)) →
      exec (.frameReceived levels quiet) s = .next judged)
    ∧ (s.line.mode ≠ .off → bytes.length = 11 →
      exec (.frameReceived (levels ++ List.replicate 10 false) quiet) s = .next judged)
    ∧ (∀ f, s.line.mode ≠ .off → own f → s.line.duplicateMark = true →
        exec (.frameReceived levels quiet) s = .next judged)
    ∧ (∀ f, s.line.mode ≠ .off → own f → s.line.duplicateMark = false → LoadsSound s →
        let joining := s.line.mode = .joining
        let marked : State := { judged with line := { judged.line with
          duplicateMark := true
          joinRunning := if joining then false else s.line.joinRunning
          presenceRunning := if joining then true else s.line.presenceRunning
          presenceTicks :=
            if joining ∧ s.line.presenceRunning = false then 0 else s.line.presenceTicks } }
        ((∃ cause, s.line.mode = .solo cause) →
          exec (.frameReceived levels quiet) s = .next { marked with
            line := { marked.line with mode := .solo .duplicateStation }
            port := postedPort (.line (.solo .duplicateStation) .duplicateStation) s })
        ∧ ((∀ cause, s.line.mode ≠ .solo cause) →
          ∃ t, exec (.frameReceived levels quiet) s = .next t
            ∧ SoloEntered .duplicateStation .duplicateStation marked t))
    ∧ (s.line.mode = .off → bytes ≠ [] → bytes.length ≤ 12 →
        exec (.frameReceived levels quiet) s = .next (if s.line.queue = [] then s else judged))
    ∧ (∀ (chars : List LineChar), s.line.mode ≠ .off → chars ≠ [] →
        let read : Receiver := { s.line.receiver with chars := chars, own := true, idleCount := 0 }
        exec (.frameReceived [] quiet) { s with line := { s.line with receiver := read } } = .next judged)

/-- R99, R101, R102, R116, R138: the presence timer and the join slot offer a PRESENCE, which joins an empty queue
alone; the window's end chooses the mode and posts LINE with JOIN_END. That neither does anything before its
timer has come to its moment is log entry 8; the order of the events at the entry into SOLO is log entry 14, and
that a waiter for a marked step at or below the solo heat cap waits on there is the model's reading (log entry
15). -/
def Obligations.JoinWindowAndPresence : Prop :=
  (∀ (s : State), s.power = .running →
      let offered : List QueuedFrame :=
        if s.line.queue = [] then [⟨.presence, 0, 0, 0, false⟩] else s.line.queue
      (s.line.presenceRunning = true → 200 ≤ s.line.presenceTicks → s.line.mode ≠ .off →
        exec .presenceDue s = .next { s with line := { s.line with
          presenceRunning := false, presenceTicks := 200, queue := offered } })
      ∧ (s.line.presenceRunning = false ∨ s.line.presenceTicks < 200 → exec .presenceDue s = .next s)
      ∧ (s.line.mode = .joining → s.line.joinRunning = true → s.line.joinSlotDone = false →
          (cfg s).station * 10 ≤ s.line.joinTicks →
          exec .joinSlot s = .next { s with line := { s.line with joinSlotDone := true, queue := offered } })
      ∧ (s.line.joinSlotDone = true ∨ s.line.joinTicks < (cfg s).station * 10 →
          exec .joinSlot s = .next s))
  ∧ (∀ (s : State), s.power = .running → s.line.mode = .joining → s.line.joinRunning = true →
      (s.line.joinTicks < 300 → exec .joinWindowEnd s = .next s)
      ∧ (300 ≤ s.line.joinTicks → LoadsSound s →
        let ended : State := { s with line := { s.line with joinRunning := false, joinTicks := 300 } }
        let moves : LineMode → Prop := fun mode => exec .joinWindowEnd s = .next { ended with
          line := { ended.line with mode := mode }
          port := postedPort (.line mode .joinEnd) s }
        let enters : SoloCause → Prop := fun cause =>
          ∃ t, exec .joinWindowEnd s = .next t ∧ SoloEntered cause .joinEnd ended t
        (s.line.duplicateMark = true → enters .duplicateStation)
        ∧ (s.line.duplicateMark = false → s.view ≠ [] → moves .banked)
        ∧ (s.line.duplicateMark = false → s.view = [] → (cfg s).bankSize = 1 → moves .alone)
        ∧ (s.line.duplicateMark = false → s.view = [] → (cfg s).bankSize ≠ 1 → enters .noPeers)))

/-- R103, R111 to R113, R138: a peer unheard for 600 ticks falls silent, keeps its totals and loses its claim; one
silent for 12,000 leaves the view; each is a view change. The last one to leave a BANKED station gives ALONE or
SOLO with NO_PEERS, with the LINE event PEERS_GONE and the entry into SOLO. A frame taken first has put the
age back, and the peer stays. The order of the events at the entry into SOLO is the model's choice (log entry
14), that a waiter for a marked step at or below the solo heat cap waits on there is its reading of R133 and R134
(log entry 15), and that a removal is told to the Admission Unit before the mode changes is log entry 20. -/
def Obligations.PeersFallSilentAndLeave : Prop :=
  ∀ (s : State) (n : Nat) (e : PeerEntry), s.power = .running → LineSound s → LoadsSound s → ClaimSound s →
    e ∈ s.view → e.number = n →
    (e.status = .present → 600 ≤ e.heardAge →
      exec (.peerSilent n) s = .next (viewChange { s with view := s.view.map fun x =>
        if x.number = n then { x with status := .silent 0, claim := none, heardAge := 600 } else x }))
    ∧ ((e.status ≠ .present ∨ e.heardAge < 600) → exec (.peerSilent n) s = .next s)
    ∧ (∀ age, e.status = .silent age → 12000 ≤ age → ∃ t,
        let changed := viewChange { s with view := s.view.filter (fun x => x.number ≠ n) }
        exec (.peerRemoved n) s = .next t
        ∧ t.view = s.view.filter (fun x => x.number ≠ n)
        ∧ changed.line.mode = s.line.mode
        ∧ ((t.view ≠ [] ∨ s.line.mode ≠ .banked) → t = changed)
        ∧ (t.view = [] → s.line.mode = .banked → (cfg s).bankSize = 1 → t = { changed with
            line := { changed.line with mode := .alone }
            port := postedPort (.line .alone .peersGone) changed })
        ∧ (t.view = [] → s.line.mode = .banked → (cfg s).bankSize ≠ 1 →
            SoloEntered .noPeers .peersGone changed t))
    ∧ ((e.status = .present ∨ ∃ age, e.status = .silent age ∧ age < 12000) →
        exec (.peerRemoved n) s = .next s)

/-- R110 step 3, R124, R125, R127, R135, R137: a view change. A HOLDING claim that no longer fits at its frozen A is
withdrawn, a SENDING claim whose admission test fails too, and in WAIT_ROOM the test is made, unless a
withdrawal has put it off to the next tick; then, while no settle runs, the feeder overcommit test is made, and
the station that must shed sheds its top heat step; then the duct overcommit test is made. That the three follow
in the order R110 names them is read from it (log entry 20), where the waiters' completions stand among a
shedding's events is the model's choice (log entry 14), that a waiter for a lower marked step waits on when the
top marked step is shed is its reading of R133 and R134 (log entry 15), and that a claim of demand 0 is tested
against an overcommitted feeder follows R123 and not R158 (log entry 28). -/
def Obligations.ViewChangeReachesAdmission : Prop :=
  ∀ (s : State), s.power = .running → LoadsSound s → LineSound s → ClaimSound s →
    let a := fun u : Nat => (15 - u) * 16 + (cfg s).station
    let u := min 15 (s.context.base + oldestAge s / 30)
    ∃ x y : State,
      ((∀ n v k, s.admission.claim = .holding n v k →
          (Fits s n (a v) → x = s) ∧ (¬ Fits s n (a v) → ClaimWithdrawn n s x))
      ∧ (∀ n v, s.admission.claim = .sending n v →
          (TestPasses s n (a v) → x = s) ∧ (¬ TestPasses s n (a v) → ClaimWithdrawn n s x))
      ∧ (s.admission.claim = .unannounced →
          ((s.admission.pending = [] ∨ s.admission.testAtTick = true ∨ withdrawnUnderAttempt s = true) →
            x = s)
          ∧ (∀ p rest, s.admission.pending = p :: rest → s.admission.testAtTick = false →
              withdrawnUnderAttempt s = false →
              (¬ TestPasses s p.step (a u) → x = s)
              ∧ (TestPasses s p.step (a u) →
                  x.admission = { s.admission with claim := .sending p.step u }
                  ∧ FrameOffered (frameOfStep .claim p.step s) s.line x.line
                  ∧ OnlyFrames s x
                  ∧ KeepsAllBut [.admission, .line] s x)))
      ∧ ((x.admission.shedSettle = none ∧ MustShed x) → ShedStep x y)
      ∧ (¬ (x.admission.shedSettle = none ∧ MustShed x) → y = x)
      ∧ DuctTested y (viewChange s))

/-! ## Admission (R119 to R139) -/

/-- R123, R124, R129: the test in WAIT_ROOM passes when the line mode permits claims, the lowest pending
step's prerequisite is held unmarked, the claim fits, its timers have elapsed and in SOLO its step is under
the cap; a CLAIM with the step's demands is then queued and the urgency frozen. A test that a withdrawal in the
same tick has put off is not made (R127). That a claim of demand 0 does not fit an overcommitted feeder follows
R123 and not R158 (log entry 28). -/
def Obligations.AdmissionTestClaims : Prop :=
  ∀ (s : State) (p : StepRequest) (rest : List StepRequest), s.power = .running → LineSound s →
    s.admission.claim = .unannounced → s.admission.pending = p :: rest →
    let u := min 15 (s.context.base + oldestAge s / 30)
    let a := (15 - u) * 16 + (cfg s).station
    let made := s.admission.testAtTick = false ∧ withdrawnUnderAttempt s = false
    (made → TestPasses s p.step a → ∃ t, exec .admissionTest s = .next t
      ∧ t.admission = { s.admission with claim := .sending p.step u }
      ∧ FrameOffered (frameOfStep .claim p.step s) s.line t.line
      ∧ OnlyFrames s t
      ∧ KeepsAllBut [.admission, .line] s t)
    ∧ ((¬ made ∨ ¬ TestPasses s p.step a) → exec .admissionTest s = .next s)

/-- R126 to R128, R137, R142, R144: a hold that expires with its test passed grants the step: its permit rises,
TAKEN is queued, its timer restarts, the request completes GRANTED, and the duct overcommit test follows; with
its test failed the claim is withdrawn and the request stays pending. That GRANTED comes before the OVERCOMMIT of
a new episode is the model's choice (log entry 14), that the command does nothing before the count has come to 30
is log entry 8, and that a claim of demand 0 does not fit an overcommitted feeder is log entry 28. -/
def Obligations.HoldExpires : Prop :=
  ∀ (s : State) (n u k : Nat), s.power = .running → LineSound s → s.admission.claim = .holding n u k →
    let a := (15 - u) * 16 + (cfg s).station
    (k < 30 → exec .holdExpiry s = .next s)
    ∧ (∀ (p : StepRequest) (rest : List StepRequest), 30 ≤ k → LoadsSound s → ClaimSound s →
        s.admission.pending = p :: rest → TestPasses s n a → s.context.cycleState = .running →
        ∃ t x : State, exec .holdExpiry s = .next t ∧ DuctTested x t
          ∧ x.admission = { s.admission with
              held := s.admission.held ++ [⟨p.tag, false⟩], pending := rest, claim := .unannounced
              spacing := if n ≤ 2 then some 0 else s.admission.spacing
              ramp := if n ≤ 2 then s.admission.ramp else some 0 }
          ∧ (n ≤ 2 → x.permits = { s.permits with drum := true, air := decide (n = 2) })
          ∧ (3 ≤ n → 1 ≤ s.permits.duty → x.permits = s.permits)
          ∧ (3 ≤ n → s.permits.duty = 0 → x.permits.duty = n - 2 ∧ x.permits.period = some 0
              ∧ x.permits.blank = false
              ∧ (x.permits.heat = true ↔ 0 < (cfg s).heatPeriod * 100 * (n - 2) / 4))
          ∧ FrameOffered (frameOfStep .taken n s) s.line x.line
          ∧ OnlyFrames s x
          ∧ x.port = { s.port with
              events := s.port.events ++ [.completion p.tag 0x03 .granted (byte8 n) 0] }
          ∧ KeepsAllBut [.admission, .permits, .line, .port] s x)
    ∧ (30 ≤ k → ¬ TestPasses s n a →
        ∃ t, exec .holdExpiry s = .next t ∧ ClaimWithdrawn n s t)

/-- R86, R87, R85, R79, R10: the drum grant in RESUMING finalises the plan from the S at the grant by the rows of
the table, GUARD with an S that has reached its remaining time taking the figure 0; it enters RUNNING with the
final figures and S 0, queues the RESUMED record, and posts PLAN_FINAL with the final plan after GRANTED. That a
second complete at this very tick counts into S, and that an OVERCOMMIT of a new episode stands between GRANTED and
PLAN_FINAL, are the model's choice (log entries 26 and 14); the test is TestPasses, with its reading of a demand
of 0 (log entry 28). -/
def Obligations.DrumGrantFinalises : Prop :=
  ∀ (s : State) (u k : Nat) (q : StepRequest) (rest : List StepRequest) (p : Progress) (plan : Plan),
    s.power = .running → LoadsSound s → LineSound s → ClaimSound s → ExchangeSound s →
    s.admission.claim = .holding 1 u k → 30 ≤ k → s.admission.pending = q :: rest →
    TestPasses s 1 ((15 - u) * 16 + (cfg s).station) → s.context.cycleState = .resuming →
    s.context.progress = some p → s.context.plan = some plan →
    let c := cfg s
    let still := if s.context.stillStarted = true ∧ 100 ≤ s.context.stillTicks
      then min 65535 (s.context.still + 1) else s.context.still
    let row : PlanRow := match tableRow c p still with
      | some row => row
      | none => { action := .resumeGuard, base := 6, guardFig := some 0 }
    let final : Plan := { plan with
      action := .run row.action, still := some still
      reheat := some (min (still * c.reheatFactor / 16) c.reheatCap)
      figures := row.figures, aged := s.context.aged, base := some row.base, stage := .finalStage }
    let heat : Progress := ⟨p.cycleId, .heat, row.heat.getD 0, row.cool.getD 0, row.guardFig.getD 0⟩
    let cool : Progress := ⟨p.cycleId, .cool, row.cool.getD 0, 0, row.guardFig.getD 0⟩
    let guarding : Progress := ⟨p.cycleId, .guarding, row.guardFig.getD 0, 0, 0⟩
    let relief : Progress := ⟨p.cycleId, .cool, row.relief.getD 0, 0, row.guardFig.getD 0⟩
    let figures : Progress := match row.action with
      | .resumeHeat => heat | .resumeCool => cool | .resumeGuard => guarding | .relief => relief
    let total := (s.view.map (·.duct)).sum
    let granted : State := { s with
      admission := { s.admission with pending := rest }
      port := { s.port with events := s.port.events ++ [.completion q.tag 0x03 .granted 1 0] } }
    let tested : Port := if c.ductLimit < total ∧ s.admission.ductEpisode = false
      then postedPort (.overcommit total c.ductLimit) granted else granted.port
    ∃ t, exec .holdExpiry s = .next t
      ∧ t.context = { s.context with
          cycleState := .running, progress := some figures, base := row.base, still := 0,
          doorSeen := false, plan := none, stillTicks := 0, freshRunning := true, freshTicks := 0 }
      ∧ t.assessor = { s.assessor with stage := .finalStage, awaiting := false, estimateMark := false }
      ∧ t.exchange = s.exchange
      ∧ t.journal = queuedJournal { recordOf .resumed (.finalAction row.action) t.context figures s.gauge with
          estimated := plan.estimated } s
      ∧ t.admission = { s.admission with
          held := [⟨q.tag, false⟩], pending := rest, claim := .unannounced, spacing := some 0
          ductEpisode := decide (c.ductLimit < total) }
      ∧ t.permits = { s.permits with drum := true, air := false }
      ∧ FrameOffered (frameOfStep .taken 1 s) s.line t.line
      ∧ OnlyFrames s t
      ∧ t.port = postedPort
          (.planFinal
            { plan := final, stale := s.context.stale, aged := s.context.aged, doorSeen := false
              cycleId := p.cycleId, stopReason := none })
          { granted with port := tested }
      ∧ KeepsAllBut [.context, .assessor, .journal, .admission, .permits, .line, .port] s t

/-- R135, R136, R146: at the settle's end the feeder overcommit test is made once; the station of the
highest A among the PRESENT peers that hold heat sheds its top heat step, blanks the heat output for the
period and starts the settle again. That the command does nothing before the 200th tick is log entry 8, and where
the waiters' completions stand among the events is the model's choice (log entry 14), and that a waiter for a
lower marked step waits on when the top marked step is shed is its reading of R133 and R134 (log entry 15). -/
def Obligations.ShedSettleExpires : Prop :=
  ∀ (s : State) (n : Nat), s.power = .running → s.admission.shedSettle = some n → LoadsSound s →
    LineSound s → ClaimSound s →
    let ended : State := { s with admission := { s.admission with shedSettle := none } }
    (n < 200 → exec .shedSettleExpiry s = .next s)
    ∧ (200 ≤ n → MustShed s → ∃ t, exec .shedSettleExpiry s = .next t ∧ ShedStep ended t)
    ∧ (200 ≤ n → ¬ MustShed s → exec .shedSettleExpiry s = .next ended)

/-! ## The heat period and the door (R145, R149, R150) -/

/-- R133, R134, R145: a period start releases the marked steps, with one RELEASED frame, the pending requests
cancelled as orphans, the claim withdrawn and their waiters completed DONE, and times the new period from the held
heat count with the blank mark clear. That the command does nothing before the period is over is log entry 8, and
that the orphans are completed before the waiters is the model's choice (log entry 14). -/
def Obligations.HeatPeriodStarts : Prop :=
  ∀ (s : State) (n : Nat), s.power = .running → LoadsSound s → s.permits.period = some n →
    let stays := s.admission.held.filter (fun h => h.mark = false)
    (n + 1 < (cfg s).heatPeriod * 100 → exec .heatPeriodStart s = .next s)
    ∧ ((cfg s).heatPeriod * 100 ≤ n + 1 → ∃ t, exec .heatPeriodStart s = .next t
      ∧ t.permits.duty = stays.length - 2 ∧ t.permits.blank = false
      ∧ (3 ≤ stays.length → t.permits.period = some 0)
      ∧ (stays.length ≤ 2 → t.permits.period = none ∧ t.permits.heat = false)
      ∧ (t.permits.heat = true ↔ 0 < (cfg s).heatPeriod * 100 * t.permits.duty / 4)
      ∧ t.permits = { s.permits with
          duty := t.permits.duty, blank := false, period := t.permits.period, heat := t.permits.heat }
      ∧ ((∀ h ∈ s.admission.held, h.mark = false) → t.admission = s.admission ∧ t.port = s.port
          ∧ t.line = s.line)
      ∧ ((∃ h ∈ s.admission.held, h.mark = true) →
          t.admission = { s.admission with
            held := stays, pending := [], claim := .unannounced
            waiters := s.admission.waiters.filter (fun w => w.step ≤ stays.length) }
          ∧ t.port = { s.port with
              events := s.port.events
                ++ stepCompletions .cancelled s.admission.pending
                ++ waiterCompletions (s.admission.waiters.filter (fun w => stays.length < w.step)) }
          ∧ ReleaseFrames (stays.length + 1) s s.line t.line)
      ∧ OnlyFrames s t
      ∧ KeepsAllBut [.admission, .permits, .line, .port] s t)

/-- R148 to R150, R134: the door's opening, once the raw level has differed at two ticks, drops the permits,
releases every step with one RELEASED frame, completes the waiters DONE and the pending requests DOOR_OPEN,
withdraws the claim with its WITHDRAWN frame and sets DOOR_SEEN; its closing ends the refusals and nothing else. -/
def Obligations.DoorReadingChanges : Prop :=
  (∀ (s : State), s.power = .running → s.permits.doorOpen = false →
      ((s.permits.doorRaw = false ∨ s.permits.doorCount < 2) → exec .doorOpening s = .next s)
      ∧ (s.permits.doorRaw = true → 2 ≤ s.permits.doorCount → ∃ t, exec .doorOpening s = .next t
        ∧ t.permits = { s.permits with
            drum := false, air := false, heat := false, duty := 0, period := none, blank := false,
            doorOpen := true, doorCount := 0 }
        ∧ t.admission = { s.admission with
            held := [], pending := [], claim := .unannounced,
            waiters := s.admission.waiters.filter (fun w => w.step = 0) }
        ∧ t.context = { s.context with
            doorSeen := s.context.doorSeen || decide (s.context.cycleState ≠ .noCycle) }
        ∧ ReleaseFrames 1 s s.line t.line
        ∧ (let done : Port := { s.port with
              events := s.port.events
                ++ waiterCompletions (s.admission.waiters.filter (fun w => 0 < w.step)) }
          let lost : Port := if heldLen s = 0 then done
            else postedPort (.stepLost 1 .door 0) { s with
              port := done
              admission := { s.admission with waiters := s.admission.waiters.filter (fun w => w.step = 0) } }
          t.port = { lost with events := lost.events ++ stepCompletions .doorOpen s.admission.pending })
        ∧ OnlyFrames s t
        ∧ KeepsAllBut [.permits, .admission, .context, .port, .line] s t))
  ∧ (∀ (s : State), s.power = .running → s.permits.doorOpen = true →
      ((s.permits.doorRaw = true ∨ s.permits.doorCount < 2) → exec .doorClosing s = .next s)
      ∧ (s.permits.doorRaw = false → 2 ≤ s.permits.doorCount →
        exec .doorClosing s = .next { s with permits := { s.permits with
          doorOpen := false, doorCount := 0 } }))
end

