-- ==== Sys2Proof/Laws/State.lean ====
section
/-! SUPPORT. What the simple updates of the state write, one lemma per field per update, each true by
unfolding. What they leave as it is stands in the frame files. -/

namespace Sys2Proof.Machine

variable (s : State)

/-! ## Events and service -/

@[simp] theorem addEvent_events (e : Event) : (addEvent e s).port.events = s.port.events ++ [e] := rfl
@[simp] theorem leaveService_inService : (leaveService s).port.inService = none := rfl

/-! ## The journal writer -/

@[simp] theorem startWrite_inFlight (b : Snapshot) :
    (startWrite b s).journal.inFlight
      = some ⟨s.journal.nextSlot, makeRecord s.journal.nextSeq b⟩ := rfl
@[simp] theorem startWrite_nextSeq (b : Snapshot) :
    (startWrite b s).journal.nextSeq = s.journal.nextSeq + 1 := rfl
@[simp] theorem startWrite_nextSlot (b : Snapshot) :
    (startWrite b s).journal.nextSlot = s.journal.nextSlot + 1 := rfl

/-! ## The cycle context -/

@[simp] theorem discardPlan_plan : (discardPlan s).context.plan = none := rfl
@[simp] theorem discardPlan_awaiting : (discardPlan s).assessor.awaiting = false := rfl
@[simp] theorem discardPlan_stage : (discardPlan s).assessor.stage = .provisional := rfl
@[simp] theorem enterNoCycle_cycleState : (enterNoCycle s).context.cycleState = .noCycle := rfl
@[simp] theorem enterNoCycle_progress : (enterNoCycle s).context.progress = none := rfl
@[simp] theorem enterNoCycle_still : (enterNoCycle s).context.still = 0 := rfl
@[simp] theorem enterNoCycle_base : (enterNoCycle s).context.base = 0 := rfl
@[simp] theorem enterNoCycle_stopReason : (enterNoCycle s).context.stopReason = none := rfl
@[simp] theorem enterNoCycle_stale : (enterNoCycle s).context.stale = false := rfl
@[simp] theorem enterNoCycle_aged : (enterNoCycle s).context.aged = false := rfl
@[simp] theorem enterNoCycle_doorSeen : (enterNoCycle s).context.doorSeen = false := rfl
@[simp] theorem enterNoCycle_plan : (enterNoCycle s).context.plan = none := rfl
@[simp] theorem enterNoCycle_freshRunning : (enterNoCycle s).context.freshRunning = false := rfl
@[simp] theorem enterNoCycle_exchange :
    (enterNoCycle s).exchange = s.exchange.mapBuffers Buffer.emptied := rfl
@[simp] theorem enterNoCycle_awaiting : (enterNoCycle s).assessor.awaiting = false := rfl
@[simp] theorem enterNoCycle_stage : (enterNoCycle s).assessor.stage = .provisional := rfl
@[simp] theorem enterNoCycle_estimateMark : (enterNoCycle s).assessor.estimateMark = false := rfl
@[simp] theorem enterRunning_cycleState : (enterRunning s).context.cycleState = .running := rfl
@[simp] theorem enterRunning_still : (enterRunning s).context.still = 0 := rfl
@[simp] theorem enterRunning_stillTicks : (enterRunning s).context.stillTicks = 0 := rfl
@[simp] theorem enterRunning_freshRunning : (enterRunning s).context.freshRunning = true := rfl
@[simp] theorem enterRunning_freshTicks : (enterRunning s).context.freshTicks = 0 := rfl
@[simp] theorem enterRunning_progress :
    (enterRunning s).context.progress = s.context.progress := rfl
@[simp] theorem enterRunning_plan : (enterRunning s).context.plan = s.context.plan := rfl
@[simp] theorem enterRunning_stopReason :
    (enterRunning s).context.stopReason = s.context.stopReason := rfl
@[simp] theorem enterRunning_estimateMark : (enterRunning s).assessor.estimateMark = false := rfl
@[simp] theorem setPlan_plan (p : Plan) (w : Bool) : (setPlan p w s).context.plan = some p := rfl
@[simp] theorem setPlan_awaiting (p : Plan) (w : Bool) : (setPlan p w s).assessor.awaiting = w := rfl
@[simp] theorem lossContext_plan : (lossContext s).context.plan = none := rfl
@[simp] theorem lossContext_stillStarted : (lossContext s).context.stillStarted = false := rfl
@[simp] theorem lossContext_freshRunning : (lossContext s).context.freshRunning = false := rfl
@[simp] theorem lossContext_awaiting : (lossContext s).assessor.awaiting = false := rfl

/-! ## The gauge -/

@[simp] theorem keepCount_previous (n : Nat) : (keepCount n s).gauge.previous = some n := rfl
@[simp] theorem gaugeFault_gaugeState (c : GaugeCause) : (gaugeFault c s).gauge.gaugeState = .fault := by
  unfold gaugeFault post; split <;> rfl
@[simp] theorem enterCharging_gaugeState (g : Gauge) : g.enterCharging.gaugeState = .charging := rfl
@[simp] theorem enterCharging_previous (g : Gauge) : g.enterCharging.previous = none := rfl
@[simp] theorem enterCharging_chargingTime (g : Gauge) : g.enterCharging.chargingTime = 0 := rfl

/-! ## Transactions -/

@[simp] theorem shiftOut_sdo (mosi out : List Byte) (n : Nat) :
    (shiftOut mosi out n s).port.sdo = padTo mosi.length (byte8 n :: out) := rfl
@[simp] theorem shiftOut_events (mosi out : List Byte) (n : Nat) :
    (shiftOut mosi out n s).port.events = s.port.events := rfl
@[simp] theorem shiftOut_requests (mosi out : List Byte) (n : Nat) :
    (shiftOut mosi out n s).port.requests = s.port.requests := rfl

/-! ## Permits -/

@[simp] theorem followSteps_drum : (followSteps s).permits.drum = decide (1 ≤ heldLen s) := rfl
@[simp] theorem followSteps_air : (followSteps s).permits.air = decide (2 ≤ heldLen s) := rfl
@[simp] theorem permitsDown_drum : (permitsDown s).permits.drum = false := rfl
@[simp] theorem permitsDown_air : (permitsDown s).permits.air = false := rfl
@[simp] theorem permitsDown_heat : (permitsDown s).permits.heat = false := rfl
@[simp] theorem permitsDown_duty : (permitsDown s).permits.duty = 0 := rfl
@[simp] theorem permitsDown_period : (permitsDown s).permits.period = none := rfl
@[simp] theorem permitsDown_blank : (permitsDown s).permits.blank = false := rfl

/-! ## The line -/

@[simp] theorem dropHead_queue : (dropHead s).line.queue = s.line.queue.tail := rfl
@[simp] theorem dropHead_failures : (dropHead s).line.failures = 0 := rfl
@[simp] theorem endAttempt_attempt (l : List Bool) : (endAttempt l s).line.attempt = none := rfl
@[simp] theorem endAttempt_receiver (l : List Bool) :
    (endAttempt l s).line.receiver = (s.line.receiver.run l).1 := rfl
@[simp] theorem ownFrameRead_attempt (a : Attempt) : (ownFrameRead a s).line.attempt = none := rfl
@[simp] theorem ownFrameRead_own (a : Attempt) : (ownFrameRead a s).line.receiver.own = true := rfl
@[simp] theorem beginAttempt_attempt (f : QueuedFrame) :
    (beginAttempt f s).line.attempt = some ⟨f, (fillFrame f s).bytes, none⟩ := rfl
@[simp] theorem resumeTestAtTick_testAtTick : (resumeTestAtTick s).admission.testAtTick = true := rfl
@[simp] theorem beginJoin_mode : (beginJoin s).line.mode = .joining := rfl
@[simp] theorem beginJoin_queue : (beginJoin s).line.queue = [] := rfl
@[simp] theorem beginJoin_attempt : (beginJoin s).line.attempt = none := rfl
@[simp] theorem beginJoin_failures : (beginJoin s).line.failures = 0 := rfl
@[simp] theorem beginJoin_presenceRunning : (beginJoin s).line.presenceRunning = false := rfl
@[simp] theorem beginJoin_joinRunning : (beginJoin s).line.joinRunning = true := rfl
@[simp] theorem beginJoin_joinTicks : (beginJoin s).line.joinTicks = 0 := rfl
@[simp] theorem beginJoin_view : (beginJoin s).view = [] := rfl
@[simp] theorem emptyLine_queue : (emptyLine s).line.queue = [] := rfl
@[simp] theorem emptyLine_attempt : (emptyLine s).line.attempt = none := rfl
@[simp] theorem vacateLine_mode (n : Nat) : (vacateLine n s).line.mode = .off := rfl
@[simp] theorem vacateLine_attempt (n : Nat) : (vacateLine n s).line.attempt = none := rfl
@[simp] theorem vacateLine_view (n : Nat) : (vacateLine n s).view = [] := rfl

/-! ## Supply and power -/

@[simp] theorem enterOnMains_supplyState : (enterOnMains s).supply.supplyState = .onMains := rfl
@[simp] theorem enterOnMains_settle : (enterOnMains s).supply.settle = 0 := rfl
@[simp] theorem enterDormant_supplyState : (enterDormant s).supply.supplyState = .dormant := rfl
@[simp] theorem enterDormant_queue : (enterDormant s).line.queue = [] := rfl
@[simp] theorem enterDormant_attempt : (enterDormant s).line.attempt = none := rfl
@[simp] theorem holdReset_power : (holdReset s).power = .resetHeld := rfl
@[simp] theorem holdReset_waiting : (holdReset s).journal.waiting = none := rfl
@[simp] theorem holdReset_attempt : (holdReset s).line.attempt = none := rfl
@[simp] theorem holdReset_receiver : (holdReset s).line.receiver = Receiver.initial := rfl
@[simp] theorem holdReset_gauge : (holdReset s).gauge = s.gauge.abandon := rfl
@[simp] theorem endScan_power : (endScan s).power = .running := rfl
@[simp] theorem endScan_inFlight : (endScan s).journal.inFlight = none := rfl
@[simp] theorem endScan_waiting : (endScan s).journal.waiting = none := rfl
@[simp] theorem startPart_power (c : ResetCause) (v : Vector Slot 32) :
    (startPart c v s).power = .scanning := rfl
@[simp] theorem startPart_slots (c : ResetCause) (v : Vector Slot 32) :
    (startPart c v s).journal.slots = v := rfl
@[simp] theorem startPart_pending (c : ResetCause) (v : Vector Slot 32) :
    (startPart c v s).pending = s.pending := rfl

end Sys2Proof.Machine
end

