-- ==== Sys2Proof/Laws/FramesOps.lean ====
section
/-! SUPPORT. The frames of the operations every block shares: the fields each leaves as they are. -/

namespace Sys2Proof.Machine

theorem foldl_keeps {β γ : Type} (f : State → β → State) (g : State → γ)
    (h : ∀ t b, g (f t b) = g t) (l : List β) (s : State) : g (l.foldl f s) = g s := by
  induction l generalizing s with
  | nil => rfl
  | cons b rest ih => rw [List.foldl_cons, ih, h]

/-- Completions change the event queue alone. -/
theorem foldl_addEvent {β : Type} (e : β → Event) (l : List β) (s : State) :
    l.foldl (fun t b => addEvent (e b) t) s
      = { s with port := { s.port with events := s.port.events ++ l.map e } } := by
  induction l generalizing s with
  | nil => simp
  | cons b rest ih => rw [List.foldl_cons, ih]; simp [addEvent]

@[simp] theorem foldl_completeStep (result : Result) (l : List StepRequest) (s : State) :
    l.foldl (fun t p => completeStep result p t) s
      = { s with port := { s.port with
          events := s.port.events ++ l.map fun p => .completion p.tag RequestKind.requestStep.code result (byte8 p.step) 0 } } :=
  foldl_addEvent _ l s

@[simp] theorem foldl_completeWaiter (l : List Waiter) (s : State) :
    l.foldl (fun t w => completeWaiter w t) s
      = { s with port := { s.port with
          events := s.port.events ++ l.map fun w => .completion w.tag RequestKind.dropStep.code .done (byte8 w.step) 0 } } :=
  foldl_addEvent _ l s

@[simp] theorem replaceInFull_frame (f : QueuedFrame) (l : Line) :
    (replaceInFull f l).mode = l.mode ∧ (replaceInFull f l).duplicateMark = l.duplicateMark
    ∧ (replaceInFull f l).attempt = l.attempt
    ∧ (replaceInFull f l).presenceRunning = l.presenceRunning
    ∧ (replaceInFull f l).presenceTicks = l.presenceTicks ∧ (replaceInFull f l).joinRunning = l.joinRunning
    ∧ (replaceInFull f l).joinTicks = l.joinTicks ∧ (replaceInFull f l).joinSlotDone = l.joinSlotDone
    ∧ (replaceInFull f l).receiver = l.receiver := by
  unfold replaceInFull; (repeat' split) <;> simp

@[simp] theorem removeClaim_frame (l : Line) :
    (removeClaim l).mode = l.mode ∧ (removeClaim l).duplicateMark = l.duplicateMark
    ∧ (removeClaim l).attempt = l.attempt
    ∧ (removeClaim l).presenceRunning = l.presenceRunning
    ∧ (removeClaim l).presenceTicks = l.presenceTicks ∧ (removeClaim l).joinRunning = l.joinRunning
    ∧ (removeClaim l).joinTicks = l.joinTicks ∧ (removeClaim l).joinSlotDone = l.joinSlotDone
    ∧ (removeClaim l).receiver = l.receiver := by
  simp [removeClaim]

@[simp] theorem addEvent_frame (e : Event) (s : State) :
    (addEvent e s).pending = s.pending ∧ (addEvent e s).power = s.power
    ∧ (addEvent e s).settings = s.settings ∧ (addEvent e s).freeIndex = s.freeIndex
    ∧ (addEvent e s).exchange = s.exchange ∧ (addEvent e s).supply = s.supply
    ∧ (addEvent e s).gauge = s.gauge ∧ (addEvent e s).journal = s.journal
    ∧ (addEvent e s).context = s.context ∧ (addEvent e s).assessor = s.assessor
    ∧ (addEvent e s).line = s.line ∧ (addEvent e s).view = s.view
    ∧ (addEvent e s).admission = s.admission ∧ (addEvent e s).permits = s.permits
    ∧ (addEvent e s).port.eventsLost = s.port.eventsLost
    ∧ (addEvent e s).port.inService = s.port.inService
    ∧ (addEvent e s).port.progressRejected = s.port.progressRejected
    ∧ (addEvent e s).port.requests = s.port.requests ∧ (addEvent e s).port.sdo = s.port.sdo := by
  simp [addEvent]

@[simp] theorem shiftOut_frame (mosi out : List Byte) (waiting : Nat) (s : State) :
    (shiftOut mosi out waiting s).pending = s.pending ∧ (shiftOut mosi out waiting s).power = s.power
    ∧ (shiftOut mosi out waiting s).settings = s.settings
    ∧ (shiftOut mosi out waiting s).freeIndex = s.freeIndex
    ∧ (shiftOut mosi out waiting s).exchange = s.exchange
    ∧ (shiftOut mosi out waiting s).supply = s.supply ∧ (shiftOut mosi out waiting s).gauge = s.gauge
    ∧ (shiftOut mosi out waiting s).journal = s.journal
    ∧ (shiftOut mosi out waiting s).context = s.context
    ∧ (shiftOut mosi out waiting s).assessor = s.assessor
    ∧ (shiftOut mosi out waiting s).line = s.line ∧ (shiftOut mosi out waiting s).view = s.view
    ∧ (shiftOut mosi out waiting s).admission = s.admission
    ∧ (shiftOut mosi out waiting s).permits = s.permits
    ∧ (shiftOut mosi out waiting s).port.inService = s.port.inService
    ∧ (shiftOut mosi out waiting s).port.eventsLost = s.port.eventsLost
    ∧ (shiftOut mosi out waiting s).port.progressRejected = s.port.progressRejected := by
  simp [shiftOut]

@[simp] theorem post_frame (e : Event) (s : State) :
    (post e s).pending = s.pending ∧ (post e s).power = s.power ∧ (post e s).settings = s.settings
    ∧ (post e s).freeIndex = s.freeIndex ∧ (post e s).exchange = s.exchange
    ∧ (post e s).supply = s.supply ∧ (post e s).gauge = s.gauge ∧ (post e s).journal = s.journal
    ∧ (post e s).context = s.context ∧ (post e s).assessor = s.assessor ∧ (post e s).line = s.line
    ∧ (post e s).view = s.view ∧ (post e s).admission = s.admission ∧ (post e s).permits = s.permits
    ∧ (post e s).port.inService = s.port.inService
    ∧ (post e s).port.progressRejected = s.port.progressRejected
    ∧ (post e s).port.requests = s.port.requests ∧ (post e s).port.sdo = s.port.sdo := by
  unfold post; split <;> simp

@[simp] theorem completeStep_frame (result : Result) (p : StepRequest) (s : State) :
    (completeStep result p s).pending = s.pending ∧ (completeStep result p s).power = s.power
    ∧ (completeStep result p s).settings = s.settings
    ∧ (completeStep result p s).freeIndex = s.freeIndex
    ∧ (completeStep result p s).exchange = s.exchange ∧ (completeStep result p s).supply = s.supply
    ∧ (completeStep result p s).gauge = s.gauge ∧ (completeStep result p s).journal = s.journal
    ∧ (completeStep result p s).context = s.context ∧ (completeStep result p s).assessor = s.assessor
    ∧ (completeStep result p s).line = s.line ∧ (completeStep result p s).view = s.view
    ∧ (completeStep result p s).admission = s.admission ∧ (completeStep result p s).permits = s.permits
    ∧ (completeStep result p s).port.eventsLost = s.port.eventsLost
    ∧ (completeStep result p s).port.inService = s.port.inService
    ∧ (completeStep result p s).port.progressRejected = s.port.progressRejected
    ∧ (completeStep result p s).port.requests = s.port.requests
    ∧ (completeStep result p s).port.sdo = s.port.sdo := by
  simp [completeStep]

@[simp] theorem completeWaiter_frame (w : Waiter) (s : State) :
    (completeWaiter w s).pending = s.pending ∧ (completeWaiter w s).power = s.power
    ∧ (completeWaiter w s).settings = s.settings ∧ (completeWaiter w s).freeIndex = s.freeIndex
    ∧ (completeWaiter w s).exchange = s.exchange ∧ (completeWaiter w s).supply = s.supply
    ∧ (completeWaiter w s).gauge = s.gauge ∧ (completeWaiter w s).journal = s.journal
    ∧ (completeWaiter w s).context = s.context ∧ (completeWaiter w s).assessor = s.assessor
    ∧ (completeWaiter w s).line = s.line ∧ (completeWaiter w s).view = s.view
    ∧ (completeWaiter w s).admission = s.admission ∧ (completeWaiter w s).permits = s.permits
    ∧ (completeWaiter w s).port.eventsLost = s.port.eventsLost
    ∧ (completeWaiter w s).port.inService = s.port.inService
    ∧ (completeWaiter w s).port.progressRejected = s.port.progressRejected
    ∧ (completeWaiter w s).port.requests = s.port.requests ∧ (completeWaiter w s).port.sdo = s.port.sdo := by
  simp [completeWaiter]

@[simp] theorem completeService_frame (result : Result) (settings : BitVec 24) (s : State) :
    (completeService result settings s).pending = s.pending
    ∧ (completeService result settings s).power = s.power
    ∧ (completeService result settings s).settings = s.settings
    ∧ (completeService result settings s).freeIndex = s.freeIndex
    ∧ (completeService result settings s).exchange = s.exchange
    ∧ (completeService result settings s).supply = s.supply
    ∧ (completeService result settings s).gauge = s.gauge
    ∧ (completeService result settings s).journal = s.journal
    ∧ (completeService result settings s).context = s.context
    ∧ (completeService result settings s).assessor = s.assessor
    ∧ (completeService result settings s).line = s.line
    ∧ (completeService result settings s).view = s.view
    ∧ (completeService result settings s).admission = s.admission
    ∧ (completeService result settings s).permits = s.permits
    ∧ (completeService result settings s).port.eventsLost = s.port.eventsLost
    ∧ (completeService result settings s).port.progressRejected = s.port.progressRejected
    ∧ (completeService result settings s).port.requests = s.port.requests
    ∧ (completeService result settings s).port.sdo = s.port.sdo := by
  unfold completeService; split <;> simp

@[simp] theorem startWrite_frame (body : Snapshot) (s : State) :
    (startWrite body s).pending = s.pending ∧ (startWrite body s).power = s.power
    ∧ (startWrite body s).settings = s.settings ∧ (startWrite body s).freeIndex = s.freeIndex
    ∧ (startWrite body s).exchange = s.exchange ∧ (startWrite body s).supply = s.supply
    ∧ (startWrite body s).gauge = s.gauge
    ∧ (startWrite body s).journal.intervalRunning = s.journal.intervalRunning
    ∧ (startWrite body s).journal.intervalTicks = s.journal.intervalTicks
    ∧ (startWrite body s).journal.slots = s.journal.slots
    ∧ (startWrite body s).journal.waiting = s.journal.waiting ∧ (startWrite body s).context = s.context
    ∧ (startWrite body s).assessor = s.assessor ∧ (startWrite body s).line = s.line
    ∧ (startWrite body s).view = s.view ∧ (startWrite body s).admission = s.admission
    ∧ (startWrite body s).permits = s.permits ∧ (startWrite body s).port = s.port := by
  simp [startWrite]

@[simp] theorem queueRecord_frame (body : Snapshot) (s : State) :
    (queueRecord body s).pending = s.pending ∧ (queueRecord body s).power = s.power
    ∧ (queueRecord body s).settings = s.settings ∧ (queueRecord body s).freeIndex = s.freeIndex
    ∧ (queueRecord body s).exchange = s.exchange ∧ (queueRecord body s).supply = s.supply
    ∧ (queueRecord body s).gauge = s.gauge
    ∧ (queueRecord body s).journal.intervalRunning = s.journal.intervalRunning
    ∧ (queueRecord body s).journal.intervalTicks = s.journal.intervalTicks
    ∧ (queueRecord body s).journal.slots = s.journal.slots ∧ (queueRecord body s).context = s.context
    ∧ (queueRecord body s).assessor = s.assessor ∧ (queueRecord body s).line = s.line
    ∧ (queueRecord body s).view = s.view ∧ (queueRecord body s).admission = s.admission
    ∧ (queueRecord body s).permits = s.permits ∧ (queueRecord body s).port = s.port := by
  unfold queueRecord; split <;> simp

@[simp] theorem startWaiting_frame (s : State) :
    (startWaiting s).pending = s.pending ∧ (startWaiting s).power = s.power
    ∧ (startWaiting s).settings = s.settings ∧ (startWaiting s).freeIndex = s.freeIndex
    ∧ (startWaiting s).exchange = s.exchange ∧ (startWaiting s).supply = s.supply
    ∧ (startWaiting s).gauge = s.gauge
    ∧ (startWaiting s).journal.intervalRunning = s.journal.intervalRunning
    ∧ (startWaiting s).journal.intervalTicks = s.journal.intervalTicks
    ∧ (startWaiting s).journal.slots = s.journal.slots ∧ (startWaiting s).context = s.context
    ∧ (startWaiting s).assessor = s.assessor ∧ (startWaiting s).line = s.line
    ∧ (startWaiting s).view = s.view ∧ (startWaiting s).admission = s.admission
    ∧ (startWaiting s).permits = s.permits ∧ (startWaiting s).port = s.port := by
  unfold startWaiting; split <;> simp

@[simp] theorem writeRecord_frame (kind : RecordKind) (reason : Reason) (s : State) :
    (writeRecord kind reason s).pending = s.pending ∧ (writeRecord kind reason s).power = s.power
    ∧ (writeRecord kind reason s).settings = s.settings
    ∧ (writeRecord kind reason s).freeIndex = s.freeIndex
    ∧ (writeRecord kind reason s).supply = s.supply ∧ (writeRecord kind reason s).gauge = s.gauge
    ∧ (writeRecord kind reason s).journal.intervalRunning = s.journal.intervalRunning
    ∧ (writeRecord kind reason s).journal.intervalTicks = s.journal.intervalTicks
    ∧ (writeRecord kind reason s).journal.slots = s.journal.slots
    ∧ (writeRecord kind reason s).context = s.context
    ∧ (writeRecord kind reason s).assessor = s.assessor ∧ (writeRecord kind reason s).line = s.line
    ∧ (writeRecord kind reason s).view = s.view ∧ (writeRecord kind reason s).admission = s.admission
    ∧ (writeRecord kind reason s).permits = s.permits ∧ (writeRecord kind reason s).port = s.port := by
  simp [writeRecord]

@[simp] theorem discardPlan_frame (s : State) :
    (discardPlan s).pending = s.pending ∧ (discardPlan s).power = s.power
    ∧ (discardPlan s).settings = s.settings ∧ (discardPlan s).freeIndex = s.freeIndex
    ∧ (discardPlan s).exchange = s.exchange ∧ (discardPlan s).supply = s.supply
    ∧ (discardPlan s).gauge = s.gauge ∧ (discardPlan s).journal = s.journal
    ∧ (discardPlan s).context.aged = s.context.aged ∧ (discardPlan s).context.base = s.context.base
    ∧ (discardPlan s).context.cycleState = s.context.cycleState
    ∧ (discardPlan s).context.doorSeen = s.context.doorSeen
    ∧ (discardPlan s).context.freshRunning = s.context.freshRunning
    ∧ (discardPlan s).context.freshTicks = s.context.freshTicks
    ∧ (discardPlan s).context.progress = s.context.progress
    ∧ (discardPlan s).context.stale = s.context.stale ∧ (discardPlan s).context.still = s.context.still
    ∧ (discardPlan s).context.stillStarted = s.context.stillStarted
    ∧ (discardPlan s).context.stillTicks = s.context.stillTicks
    ∧ (discardPlan s).context.stopReason = s.context.stopReason
    ∧ (discardPlan s).assessor.estimateMark = s.assessor.estimateMark
    ∧ (discardPlan s).assessor.gaugeOff = s.assessor.gaugeOff ∧ (discardPlan s).line = s.line
    ∧ (discardPlan s).view = s.view ∧ (discardPlan s).admission = s.admission
    ∧ (discardPlan s).permits = s.permits ∧ (discardPlan s).port = s.port := by
  simp [discardPlan]

@[simp] theorem enterNoCycle_frame (s : State) :
    (enterNoCycle s).pending = s.pending ∧ (enterNoCycle s).power = s.power
    ∧ (enterNoCycle s).settings = s.settings ∧ (enterNoCycle s).freeIndex = s.freeIndex
    ∧ (enterNoCycle s).supply = s.supply ∧ (enterNoCycle s).gauge = s.gauge
    ∧ (enterNoCycle s).journal = s.journal ∧ (enterNoCycle s).context.freshTicks = s.context.freshTicks
    ∧ (enterNoCycle s).context.stillStarted = s.context.stillStarted
    ∧ (enterNoCycle s).assessor.gaugeOff = s.assessor.gaugeOff ∧ (enterNoCycle s).line = s.line
    ∧ (enterNoCycle s).view = s.view ∧ (enterNoCycle s).admission = s.admission
    ∧ (enterNoCycle s).permits = s.permits ∧ (enterNoCycle s).port = s.port := by
  simp [enterNoCycle]

@[simp] theorem enterRunning_frame (s : State) :
    (enterRunning s).pending = s.pending ∧ (enterRunning s).power = s.power
    ∧ (enterRunning s).settings = s.settings ∧ (enterRunning s).freeIndex = s.freeIndex
    ∧ (enterRunning s).exchange = s.exchange ∧ (enterRunning s).supply = s.supply
    ∧ (enterRunning s).gauge = s.gauge ∧ (enterRunning s).journal = s.journal
    ∧ (enterRunning s).context.aged = s.context.aged ∧ (enterRunning s).context.base = s.context.base
    ∧ (enterRunning s).context.doorSeen = s.context.doorSeen
    ∧ (enterRunning s).context.plan = s.context.plan
    ∧ (enterRunning s).context.progress = s.context.progress
    ∧ (enterRunning s).context.stale = s.context.stale
    ∧ (enterRunning s).context.stillStarted = s.context.stillStarted
    ∧ (enterRunning s).context.stopReason = s.context.stopReason
    ∧ (enterRunning s).assessor.awaiting = s.assessor.awaiting
    ∧ (enterRunning s).assessor.gaugeOff = s.assessor.gaugeOff
    ∧ (enterRunning s).assessor.stage = s.assessor.stage ∧ (enterRunning s).line = s.line
    ∧ (enterRunning s).view = s.view ∧ (enterRunning s).admission = s.admission
    ∧ (enterRunning s).permits = s.permits ∧ (enterRunning s).port = s.port := by
  simp [enterRunning]

@[simp] theorem offer_frame (f : QueuedFrame) (s : State) :
    (offer f s).pending = s.pending ∧ (offer f s).power = s.power ∧ (offer f s).settings = s.settings
    ∧ (offer f s).freeIndex = s.freeIndex ∧ (offer f s).exchange = s.exchange
    ∧ (offer f s).supply = s.supply ∧ (offer f s).gauge = s.gauge ∧ (offer f s).journal = s.journal
    ∧ (offer f s).context = s.context ∧ (offer f s).assessor = s.assessor ∧ (offer f s).view = s.view
    ∧ (offer f s).admission = s.admission ∧ (offer f s).permits = s.permits ∧ (offer f s).port = s.port
    ∧ (offer f s).line.mode = s.line.mode ∧ (offer f s).line.duplicateMark = s.line.duplicateMark
    ∧ (offer f s).line.presenceRunning = s.line.presenceRunning
    ∧ (offer f s).line.presenceTicks = s.line.presenceTicks
    ∧ (offer f s).line.joinRunning = s.line.joinRunning ∧ (offer f s).line.joinTicks = s.line.joinTicks
    ∧ (offer f s).line.joinSlotDone = s.line.joinSlotDone
    ∧ (offer f s).line.receiver = s.line.receiver ∧ (offer f s).line.attempt = s.line.attempt := by
  unfold offer; (repeat' split) <;> simp

@[simp] theorem withdrawFrame_frame (f : QueuedFrame) (s : State) :
    (withdrawFrame f s).pending = s.pending ∧ (withdrawFrame f s).power = s.power
    ∧ (withdrawFrame f s).settings = s.settings ∧ (withdrawFrame f s).freeIndex = s.freeIndex
    ∧ (withdrawFrame f s).exchange = s.exchange ∧ (withdrawFrame f s).supply = s.supply
    ∧ (withdrawFrame f s).gauge = s.gauge ∧ (withdrawFrame f s).journal = s.journal
    ∧ (withdrawFrame f s).context = s.context ∧ (withdrawFrame f s).assessor = s.assessor
    ∧ (withdrawFrame f s).view = s.view ∧ (withdrawFrame f s).admission = s.admission
    ∧ (withdrawFrame f s).permits = s.permits ∧ (withdrawFrame f s).port = s.port
    ∧ (withdrawFrame f s).line.mode = s.line.mode
    ∧ (withdrawFrame f s).line.duplicateMark = s.line.duplicateMark
    ∧ (withdrawFrame f s).line.presenceRunning = s.line.presenceRunning
    ∧ (withdrawFrame f s).line.presenceTicks = s.line.presenceTicks
    ∧ (withdrawFrame f s).line.joinRunning = s.line.joinRunning
    ∧ (withdrawFrame f s).line.joinTicks = s.line.joinTicks
    ∧ (withdrawFrame f s).line.joinSlotDone = s.line.joinSlotDone
    ∧ (withdrawFrame f s).line.receiver = s.line.receiver := by
  unfold withdrawFrame; (repeat' split) <;> simp

@[simp] theorem followSteps_frame (s : State) :
    (followSteps s).pending = s.pending ∧ (followSteps s).power = s.power
    ∧ (followSteps s).settings = s.settings ∧ (followSteps s).freeIndex = s.freeIndex
    ∧ (followSteps s).exchange = s.exchange ∧ (followSteps s).supply = s.supply
    ∧ (followSteps s).gauge = s.gauge ∧ (followSteps s).journal = s.journal
    ∧ (followSteps s).context = s.context ∧ (followSteps s).assessor = s.assessor
    ∧ (followSteps s).line = s.line ∧ (followSteps s).view = s.view
    ∧ (followSteps s).admission = s.admission ∧ (followSteps s).permits.blank = s.permits.blank
    ∧ (followSteps s).permits.doorCount = s.permits.doorCount
    ∧ (followSteps s).permits.doorOpen = s.permits.doorOpen
    ∧ (followSteps s).permits.doorRaw = s.permits.doorRaw
    ∧ (followSteps s).permits.doorInput = s.permits.doorInput
    ∧ (followSteps s).permits.duty = s.permits.duty ∧ (followSteps s).permits.heat = s.permits.heat
    ∧ (followSteps s).permits.period = s.permits.period ∧ (followSteps s).port = s.port := by
  simp [followSteps]

@[simp] theorem forcedDrop_frame (before : Nat) (s : State) :
    (forcedDrop before s).pending = s.pending ∧ (forcedDrop before s).power = s.power
    ∧ (forcedDrop before s).settings = s.settings ∧ (forcedDrop before s).freeIndex = s.freeIndex
    ∧ (forcedDrop before s).exchange = s.exchange ∧ (forcedDrop before s).supply = s.supply
    ∧ (forcedDrop before s).gauge = s.gauge ∧ (forcedDrop before s).journal = s.journal
    ∧ (forcedDrop before s).context = s.context ∧ (forcedDrop before s).assessor = s.assessor
    ∧ (forcedDrop before s).line = s.line ∧ (forcedDrop before s).view = s.view
    ∧ (forcedDrop before s).admission = s.admission ∧ (forcedDrop before s).permits.air = s.permits.air
    ∧ (forcedDrop before s).permits.doorCount = s.permits.doorCount
    ∧ (forcedDrop before s).permits.doorOpen = s.permits.doorOpen
    ∧ (forcedDrop before s).permits.doorRaw = s.permits.doorRaw
    ∧ (forcedDrop before s).permits.doorInput = s.permits.doorInput
    ∧ (forcedDrop before s).permits.drum = s.permits.drum ∧ (forcedDrop before s).port = s.port := by
  unfold forcedDrop; dsimp only; split <;> simp

@[simp] theorem permitsDown_frame (s : State) :
    (permitsDown s).pending = s.pending ∧ (permitsDown s).power = s.power
    ∧ (permitsDown s).settings = s.settings ∧ (permitsDown s).freeIndex = s.freeIndex
    ∧ (permitsDown s).exchange = s.exchange ∧ (permitsDown s).supply = s.supply
    ∧ (permitsDown s).gauge = s.gauge ∧ (permitsDown s).journal = s.journal
    ∧ (permitsDown s).context = s.context ∧ (permitsDown s).assessor = s.assessor
    ∧ (permitsDown s).line = s.line ∧ (permitsDown s).view = s.view
    ∧ (permitsDown s).admission = s.admission ∧ (permitsDown s).permits.doorCount = s.permits.doorCount
    ∧ (permitsDown s).permits.doorOpen = s.permits.doorOpen
    ∧ (permitsDown s).permits.doorRaw = s.permits.doorRaw
    ∧ (permitsDown s).permits.doorInput = s.permits.doorInput ∧ (permitsDown s).port = s.port := by
  simp [permitsDown]

end Sys2Proof.Machine
end

