-- ==== Sys2Proof/Laws/FramesAdmission.lean ====
section
/-! SUPPORT. The frames of the Admission Unit's operations: the fields each leaves as they are. -/

namespace Sys2Proof.Machine

@[simp] theorem tryClaim_frame (s : State) :
    (tryClaim s).pending = s.pending ∧ (tryClaim s).power = s.power ∧ (tryClaim s).settings = s.settings
    ∧ (tryClaim s).freeIndex = s.freeIndex ∧ (tryClaim s).exchange = s.exchange
    ∧ (tryClaim s).supply = s.supply ∧ (tryClaim s).gauge = s.gauge ∧ (tryClaim s).journal = s.journal
    ∧ (tryClaim s).context = s.context ∧ (tryClaim s).assessor = s.assessor ∧ (tryClaim s).view = s.view
    ∧ (tryClaim s).admission.ductEpisode = s.admission.ductEpisode
    ∧ (tryClaim s).admission.held = s.admission.held
    ∧ (tryClaim s).admission.pending = s.admission.pending
    ∧ (tryClaim s).admission.ramp = s.admission.ramp
    ∧ (tryClaim s).admission.shedSettle = s.admission.shedSettle
    ∧ (tryClaim s).admission.spacing = s.admission.spacing
    ∧ (tryClaim s).admission.testAtTick = s.admission.testAtTick
    ∧ (tryClaim s).admission.waiters = s.admission.waiters ∧ (tryClaim s).permits = s.permits
    ∧ (tryClaim s).port = s.port ∧ (tryClaim s).line.mode = s.line.mode
    ∧ (tryClaim s).line.duplicateMark = s.line.duplicateMark
    ∧ (tryClaim s).line.presenceRunning = s.line.presenceRunning
    ∧ (tryClaim s).line.presenceTicks = s.line.presenceTicks
    ∧ (tryClaim s).line.joinRunning = s.line.joinRunning
    ∧ (tryClaim s).line.joinTicks = s.line.joinTicks
    ∧ (tryClaim s).line.joinSlotDone = s.line.joinSlotDone
    ∧ (tryClaim s).line.receiver = s.line.receiver := by
  unfold tryClaim; dsimp only; (repeat' split) <;> simp

@[simp] theorem withdrawClaim_frame (s : State) :
    (withdrawClaim s).pending = s.pending ∧ (withdrawClaim s).power = s.power
    ∧ (withdrawClaim s).settings = s.settings ∧ (withdrawClaim s).freeIndex = s.freeIndex
    ∧ (withdrawClaim s).exchange = s.exchange ∧ (withdrawClaim s).supply = s.supply
    ∧ (withdrawClaim s).gauge = s.gauge ∧ (withdrawClaim s).journal = s.journal
    ∧ (withdrawClaim s).context = s.context ∧ (withdrawClaim s).assessor = s.assessor
    ∧ (withdrawClaim s).view = s.view
    ∧ (withdrawClaim s).admission.ductEpisode = s.admission.ductEpisode
    ∧ (withdrawClaim s).admission.held = s.admission.held
    ∧ (withdrawClaim s).admission.pending = s.admission.pending
    ∧ (withdrawClaim s).admission.ramp = s.admission.ramp
    ∧ (withdrawClaim s).admission.shedSettle = s.admission.shedSettle
    ∧ (withdrawClaim s).admission.spacing = s.admission.spacing
    ∧ (withdrawClaim s).admission.waiters = s.admission.waiters ∧ (withdrawClaim s).permits = s.permits
    ∧ (withdrawClaim s).port = s.port ∧ (withdrawClaim s).line.mode = s.line.mode
    ∧ (withdrawClaim s).line.duplicateMark = s.line.duplicateMark
    ∧ (withdrawClaim s).line.presenceRunning = s.line.presenceRunning
    ∧ (withdrawClaim s).line.presenceTicks = s.line.presenceTicks
    ∧ (withdrawClaim s).line.joinRunning = s.line.joinRunning
    ∧ (withdrawClaim s).line.joinTicks = s.line.joinTicks
    ∧ (withdrawClaim s).line.joinSlotDone = s.line.joinSlotDone
    ∧ (withdrawClaim s).line.receiver = s.line.receiver := by
  unfold withdrawClaim; split <;> simp

@[simp] theorem withdrawUnfounded_frame (s : State) :
    (withdrawUnfounded s).pending = s.pending ∧ (withdrawUnfounded s).power = s.power
    ∧ (withdrawUnfounded s).settings = s.settings ∧ (withdrawUnfounded s).freeIndex = s.freeIndex
    ∧ (withdrawUnfounded s).exchange = s.exchange ∧ (withdrawUnfounded s).supply = s.supply
    ∧ (withdrawUnfounded s).gauge = s.gauge ∧ (withdrawUnfounded s).journal = s.journal
    ∧ (withdrawUnfounded s).context = s.context ∧ (withdrawUnfounded s).assessor = s.assessor
    ∧ (withdrawUnfounded s).view = s.view
    ∧ (withdrawUnfounded s).admission.ductEpisode = s.admission.ductEpisode
    ∧ (withdrawUnfounded s).admission.held = s.admission.held
    ∧ (withdrawUnfounded s).admission.pending = s.admission.pending
    ∧ (withdrawUnfounded s).admission.ramp = s.admission.ramp
    ∧ (withdrawUnfounded s).admission.shedSettle = s.admission.shedSettle
    ∧ (withdrawUnfounded s).admission.spacing = s.admission.spacing
    ∧ (withdrawUnfounded s).admission.waiters = s.admission.waiters
    ∧ (withdrawUnfounded s).permits = s.permits ∧ (withdrawUnfounded s).port = s.port
    ∧ (withdrawUnfounded s).line.mode = s.line.mode
    ∧ (withdrawUnfounded s).line.duplicateMark = s.line.duplicateMark
    ∧ (withdrawUnfounded s).line.presenceRunning = s.line.presenceRunning
    ∧ (withdrawUnfounded s).line.presenceTicks = s.line.presenceTicks
    ∧ (withdrawUnfounded s).line.joinRunning = s.line.joinRunning
    ∧ (withdrawUnfounded s).line.joinTicks = s.line.joinTicks
    ∧ (withdrawUnfounded s).line.joinSlotDone = s.line.joinSlotDone
    ∧ (withdrawUnfounded s).line.receiver = s.line.receiver := by
  unfold withdrawUnfounded; (repeat' split) <;> simp

@[simp] theorem settleChain_frame (s : State) :
    (settleChain s).pending = s.pending ∧ (settleChain s).power = s.power
    ∧ (settleChain s).settings = s.settings ∧ (settleChain s).freeIndex = s.freeIndex
    ∧ (settleChain s).exchange = s.exchange ∧ (settleChain s).supply = s.supply
    ∧ (settleChain s).gauge = s.gauge ∧ (settleChain s).journal = s.journal
    ∧ (settleChain s).context = s.context ∧ (settleChain s).assessor = s.assessor
    ∧ (settleChain s).view = s.view ∧ (settleChain s).admission.ductEpisode = s.admission.ductEpisode
    ∧ (settleChain s).admission.held = s.admission.held
    ∧ (settleChain s).admission.ramp = s.admission.ramp
    ∧ (settleChain s).admission.shedSettle = s.admission.shedSettle
    ∧ (settleChain s).admission.spacing = s.admission.spacing
    ∧ (settleChain s).admission.waiters = s.admission.waiters ∧ (settleChain s).permits = s.permits
    ∧ (settleChain s).port.eventsLost = s.port.eventsLost
    ∧ (settleChain s).port.inService = s.port.inService
    ∧ (settleChain s).port.progressRejected = s.port.progressRejected
    ∧ (settleChain s).port.requests = s.port.requests ∧ (settleChain s).port.sdo = s.port.sdo
    ∧ (settleChain s).line.mode = s.line.mode
    ∧ (settleChain s).line.duplicateMark = s.line.duplicateMark
    ∧ (settleChain s).line.presenceRunning = s.line.presenceRunning
    ∧ (settleChain s).line.presenceTicks = s.line.presenceTicks
    ∧ (settleChain s).line.joinRunning = s.line.joinRunning
    ∧ (settleChain s).line.joinTicks = s.line.joinTicks
    ∧ (settleChain s).line.joinSlotDone = s.line.joinSlotDone
    ∧ (settleChain s).line.receiver = s.line.receiver := by
  simp [settleChain]

@[simp] theorem completeAllPending_frame (result : Result) (s : State) :
    (completeAllPending result s).pending = s.pending ∧ (completeAllPending result s).power = s.power
    ∧ (completeAllPending result s).settings = s.settings
    ∧ (completeAllPending result s).freeIndex = s.freeIndex
    ∧ (completeAllPending result s).exchange = s.exchange
    ∧ (completeAllPending result s).supply = s.supply ∧ (completeAllPending result s).gauge = s.gauge
    ∧ (completeAllPending result s).journal = s.journal
    ∧ (completeAllPending result s).context = s.context
    ∧ (completeAllPending result s).assessor = s.assessor ∧ (completeAllPending result s).line = s.line
    ∧ (completeAllPending result s).view = s.view
    ∧ (completeAllPending result s).admission.claim = s.admission.claim
    ∧ (completeAllPending result s).admission.ductEpisode = s.admission.ductEpisode
    ∧ (completeAllPending result s).admission.held = s.admission.held
    ∧ (completeAllPending result s).admission.ramp = s.admission.ramp
    ∧ (completeAllPending result s).admission.shedSettle = s.admission.shedSettle
    ∧ (completeAllPending result s).admission.spacing = s.admission.spacing
    ∧ (completeAllPending result s).admission.testAtTick = s.admission.testAtTick
    ∧ (completeAllPending result s).admission.waiters = s.admission.waiters
    ∧ (completeAllPending result s).permits = s.permits
    ∧ (completeAllPending result s).port.eventsLost = s.port.eventsLost
    ∧ (completeAllPending result s).port.inService = s.port.inService
    ∧ (completeAllPending result s).port.progressRejected = s.port.progressRejected
    ∧ (completeAllPending result s).port.requests = s.port.requests
    ∧ (completeAllPending result s).port.sdo = s.port.sdo := by
  simp [completeAllPending]

@[simp] theorem finishWaiters_frame (s : State) :
    (finishWaiters s).pending = s.pending ∧ (finishWaiters s).power = s.power
    ∧ (finishWaiters s).settings = s.settings ∧ (finishWaiters s).freeIndex = s.freeIndex
    ∧ (finishWaiters s).exchange = s.exchange ∧ (finishWaiters s).supply = s.supply
    ∧ (finishWaiters s).gauge = s.gauge ∧ (finishWaiters s).journal = s.journal
    ∧ (finishWaiters s).context = s.context ∧ (finishWaiters s).assessor = s.assessor
    ∧ (finishWaiters s).line = s.line ∧ (finishWaiters s).view = s.view
    ∧ (finishWaiters s).admission.claim = s.admission.claim
    ∧ (finishWaiters s).admission.ductEpisode = s.admission.ductEpisode
    ∧ (finishWaiters s).admission.held = s.admission.held
    ∧ (finishWaiters s).admission.pending = s.admission.pending
    ∧ (finishWaiters s).admission.ramp = s.admission.ramp
    ∧ (finishWaiters s).admission.shedSettle = s.admission.shedSettle
    ∧ (finishWaiters s).admission.spacing = s.admission.spacing
    ∧ (finishWaiters s).admission.testAtTick = s.admission.testAtTick
    ∧ (finishWaiters s).permits = s.permits ∧ (finishWaiters s).port.eventsLost = s.port.eventsLost
    ∧ (finishWaiters s).port.inService = s.port.inService
    ∧ (finishWaiters s).port.progressRejected = s.port.progressRejected
    ∧ (finishWaiters s).port.requests = s.port.requests ∧ (finishWaiters s).port.sdo = s.port.sdo := by
  simp [finishWaiters]

@[simp] theorem takeAway_frame (low : Nat) (s : State) :
    (takeAway low s).pending = s.pending ∧ (takeAway low s).power = s.power
    ∧ (takeAway low s).settings = s.settings ∧ (takeAway low s).freeIndex = s.freeIndex
    ∧ (takeAway low s).exchange = s.exchange ∧ (takeAway low s).supply = s.supply
    ∧ (takeAway low s).gauge = s.gauge ∧ (takeAway low s).journal = s.journal
    ∧ (takeAway low s).context = s.context ∧ (takeAway low s).assessor = s.assessor
    ∧ (takeAway low s).line = s.line ∧ (takeAway low s).view = s.view
    ∧ (takeAway low s).admission.claim = s.admission.claim
    ∧ (takeAway low s).admission.ductEpisode = s.admission.ductEpisode
    ∧ (takeAway low s).admission.pending = s.admission.pending
    ∧ (takeAway low s).admission.ramp = s.admission.ramp
    ∧ (takeAway low s).admission.shedSettle = s.admission.shedSettle
    ∧ (takeAway low s).admission.spacing = s.admission.spacing
    ∧ (takeAway low s).admission.testAtTick = s.admission.testAtTick
    ∧ (takeAway low s).admission.waiters = s.admission.waiters
    ∧ (takeAway low s).permits.doorCount = s.permits.doorCount
    ∧ (takeAway low s).permits.doorOpen = s.permits.doorOpen
    ∧ (takeAway low s).permits.doorRaw = s.permits.doorRaw
    ∧ (takeAway low s).permits.doorInput = s.permits.doorInput ∧ (takeAway low s).port = s.port := by
  simp [takeAway]

@[simp] theorem releaseAtOnce_frame (low : Nat) (s : State) :
    (releaseAtOnce low s).pending = s.pending ∧ (releaseAtOnce low s).power = s.power
    ∧ (releaseAtOnce low s).settings = s.settings ∧ (releaseAtOnce low s).freeIndex = s.freeIndex
    ∧ (releaseAtOnce low s).exchange = s.exchange ∧ (releaseAtOnce low s).supply = s.supply
    ∧ (releaseAtOnce low s).gauge = s.gauge ∧ (releaseAtOnce low s).journal = s.journal
    ∧ (releaseAtOnce low s).context = s.context ∧ (releaseAtOnce low s).assessor = s.assessor
    ∧ (releaseAtOnce low s).view = s.view ∧ (releaseAtOnce low s).admission.claim = s.admission.claim
    ∧ (releaseAtOnce low s).admission.ductEpisode = s.admission.ductEpisode
    ∧ (releaseAtOnce low s).admission.pending = s.admission.pending
    ∧ (releaseAtOnce low s).admission.ramp = s.admission.ramp
    ∧ (releaseAtOnce low s).admission.shedSettle = s.admission.shedSettle
    ∧ (releaseAtOnce low s).admission.spacing = s.admission.spacing
    ∧ (releaseAtOnce low s).admission.testAtTick = s.admission.testAtTick
    ∧ (releaseAtOnce low s).admission.waiters = s.admission.waiters
    ∧ (releaseAtOnce low s).permits.doorCount = s.permits.doorCount
    ∧ (releaseAtOnce low s).permits.doorOpen = s.permits.doorOpen
    ∧ (releaseAtOnce low s).permits.doorRaw = s.permits.doorRaw
    ∧ (releaseAtOnce low s).permits.doorInput = s.permits.doorInput ∧ (releaseAtOnce low s).port = s.port
    ∧ (releaseAtOnce low s).line.mode = s.line.mode
    ∧ (releaseAtOnce low s).line.duplicateMark = s.line.duplicateMark
    ∧ (releaseAtOnce low s).line.presenceRunning = s.line.presenceRunning
    ∧ (releaseAtOnce low s).line.presenceTicks = s.line.presenceTicks
    ∧ (releaseAtOnce low s).line.joinRunning = s.line.joinRunning
    ∧ (releaseAtOnce low s).line.joinTicks = s.line.joinTicks
    ∧ (releaseAtOnce low s).line.joinSlotDone = s.line.joinSlotDone
    ∧ (releaseAtOnce low s).line.receiver = s.line.receiver := by
  unfold releaseAtOnce; split <;> simp

@[simp] theorem postStepLost_frame (low : Nat) (cause : LostCause) (s : State) :
    (postStepLost low cause s).pending = s.pending ∧ (postStepLost low cause s).power = s.power
    ∧ (postStepLost low cause s).settings = s.settings
    ∧ (postStepLost low cause s).freeIndex = s.freeIndex
    ∧ (postStepLost low cause s).exchange = s.exchange ∧ (postStepLost low cause s).supply = s.supply
    ∧ (postStepLost low cause s).gauge = s.gauge ∧ (postStepLost low cause s).journal = s.journal
    ∧ (postStepLost low cause s).context = s.context ∧ (postStepLost low cause s).assessor = s.assessor
    ∧ (postStepLost low cause s).line = s.line ∧ (postStepLost low cause s).view = s.view
    ∧ (postStepLost low cause s).admission = s.admission
    ∧ (postStepLost low cause s).permits = s.permits
    ∧ (postStepLost low cause s).port.inService = s.port.inService
    ∧ (postStepLost low cause s).port.progressRejected = s.port.progressRejected
    ∧ (postStepLost low cause s).port.requests = s.port.requests
    ∧ (postStepLost low cause s).port.sdo = s.port.sdo := by
  simp [postStepLost]

@[simp] theorem releaseAllForHost_frame (s : State) :
    (releaseAllForHost s).pending = s.pending ∧ (releaseAllForHost s).power = s.power
    ∧ (releaseAllForHost s).settings = s.settings ∧ (releaseAllForHost s).freeIndex = s.freeIndex
    ∧ (releaseAllForHost s).exchange = s.exchange ∧ (releaseAllForHost s).supply = s.supply
    ∧ (releaseAllForHost s).gauge = s.gauge ∧ (releaseAllForHost s).journal = s.journal
    ∧ (releaseAllForHost s).context = s.context ∧ (releaseAllForHost s).assessor = s.assessor
    ∧ (releaseAllForHost s).view = s.view
    ∧ (releaseAllForHost s).admission.ductEpisode = s.admission.ductEpisode
    ∧ (releaseAllForHost s).admission.ramp = s.admission.ramp
    ∧ (releaseAllForHost s).admission.shedSettle = s.admission.shedSettle
    ∧ (releaseAllForHost s).admission.spacing = s.admission.spacing
    ∧ (releaseAllForHost s).permits.doorCount = s.permits.doorCount
    ∧ (releaseAllForHost s).permits.doorOpen = s.permits.doorOpen
    ∧ (releaseAllForHost s).permits.doorRaw = s.permits.doorRaw
    ∧ (releaseAllForHost s).permits.doorInput = s.permits.doorInput
    ∧ (releaseAllForHost s).port.eventsLost = s.port.eventsLost
    ∧ (releaseAllForHost s).port.inService = s.port.inService
    ∧ (releaseAllForHost s).port.progressRejected = s.port.progressRejected
    ∧ (releaseAllForHost s).port.requests = s.port.requests
    ∧ (releaseAllForHost s).port.sdo = s.port.sdo ∧ (releaseAllForHost s).line.mode = s.line.mode
    ∧ (releaseAllForHost s).line.duplicateMark = s.line.duplicateMark
    ∧ (releaseAllForHost s).line.presenceRunning = s.line.presenceRunning
    ∧ (releaseAllForHost s).line.presenceTicks = s.line.presenceTicks
    ∧ (releaseAllForHost s).line.joinRunning = s.line.joinRunning
    ∧ (releaseAllForHost s).line.joinTicks = s.line.joinTicks
    ∧ (releaseAllForHost s).line.joinSlotDone = s.line.joinSlotDone
    ∧ (releaseAllForHost s).line.receiver = s.line.receiver := by
  simp [releaseAllForHost]

@[simp] theorem releaseMarked_frame (s : State) :
    (releaseMarked s).pending = s.pending ∧ (releaseMarked s).power = s.power
    ∧ (releaseMarked s).settings = s.settings ∧ (releaseMarked s).freeIndex = s.freeIndex
    ∧ (releaseMarked s).exchange = s.exchange ∧ (releaseMarked s).supply = s.supply
    ∧ (releaseMarked s).gauge = s.gauge ∧ (releaseMarked s).journal = s.journal
    ∧ (releaseMarked s).context = s.context ∧ (releaseMarked s).assessor = s.assessor
    ∧ (releaseMarked s).view = s.view
    ∧ (releaseMarked s).admission.ductEpisode = s.admission.ductEpisode
    ∧ (releaseMarked s).admission.ramp = s.admission.ramp
    ∧ (releaseMarked s).admission.shedSettle = s.admission.shedSettle
    ∧ (releaseMarked s).admission.spacing = s.admission.spacing ∧ (releaseMarked s).permits = s.permits
    ∧ (releaseMarked s).port.eventsLost = s.port.eventsLost
    ∧ (releaseMarked s).port.inService = s.port.inService
    ∧ (releaseMarked s).port.progressRejected = s.port.progressRejected
    ∧ (releaseMarked s).port.requests = s.port.requests ∧ (releaseMarked s).port.sdo = s.port.sdo
    ∧ (releaseMarked s).line.mode = s.line.mode
    ∧ (releaseMarked s).line.duplicateMark = s.line.duplicateMark
    ∧ (releaseMarked s).line.presenceRunning = s.line.presenceRunning
    ∧ (releaseMarked s).line.presenceTicks = s.line.presenceTicks
    ∧ (releaseMarked s).line.joinRunning = s.line.joinRunning
    ∧ (releaseMarked s).line.joinTicks = s.line.joinTicks
    ∧ (releaseMarked s).line.joinSlotDone = s.line.joinSlotDone
    ∧ (releaseMarked s).line.receiver = s.line.receiver := by
  unfold releaseMarked; split <;> simp

@[simp] theorem heatGrant_frame (s : State) :
    (heatGrant s).pending = s.pending ∧ (heatGrant s).power = s.power
    ∧ (heatGrant s).settings = s.settings ∧ (heatGrant s).freeIndex = s.freeIndex
    ∧ (heatGrant s).exchange = s.exchange ∧ (heatGrant s).supply = s.supply
    ∧ (heatGrant s).gauge = s.gauge ∧ (heatGrant s).journal = s.journal
    ∧ (heatGrant s).context = s.context ∧ (heatGrant s).assessor = s.assessor
    ∧ (heatGrant s).line = s.line ∧ (heatGrant s).view = s.view ∧ (heatGrant s).admission = s.admission
    ∧ (heatGrant s).permits.air = s.permits.air ∧ (heatGrant s).permits.doorCount = s.permits.doorCount
    ∧ (heatGrant s).permits.doorOpen = s.permits.doorOpen
    ∧ (heatGrant s).permits.doorRaw = s.permits.doorRaw
    ∧ (heatGrant s).permits.doorInput = s.permits.doorInput ∧ (heatGrant s).permits.drum = s.permits.drum
    ∧ (heatGrant s).port = s.port := by
  unfold heatGrant; split <;> simp

@[simp] theorem permitsAtGrant_frame (step : Nat) (s : State) :
    (permitsAtGrant step s).pending = s.pending ∧ (permitsAtGrant step s).power = s.power
    ∧ (permitsAtGrant step s).settings = s.settings ∧ (permitsAtGrant step s).freeIndex = s.freeIndex
    ∧ (permitsAtGrant step s).exchange = s.exchange ∧ (permitsAtGrant step s).supply = s.supply
    ∧ (permitsAtGrant step s).gauge = s.gauge ∧ (permitsAtGrant step s).journal = s.journal
    ∧ (permitsAtGrant step s).context = s.context ∧ (permitsAtGrant step s).assessor = s.assessor
    ∧ (permitsAtGrant step s).line = s.line ∧ (permitsAtGrant step s).view = s.view
    ∧ (permitsAtGrant step s).admission = s.admission
    ∧ (permitsAtGrant step s).permits.doorCount = s.permits.doorCount
    ∧ (permitsAtGrant step s).permits.doorOpen = s.permits.doorOpen
    ∧ (permitsAtGrant step s).permits.doorRaw = s.permits.doorRaw
    ∧ (permitsAtGrant step s).permits.doorInput = s.permits.doorInput
    ∧ (permitsAtGrant step s).port = s.port := by
  unfold permitsAtGrant; split <;> simp

@[simp] theorem restartGrantTimer_frame (step : Nat) (s : State) :
    (restartGrantTimer step s).pending = s.pending ∧ (restartGrantTimer step s).power = s.power
    ∧ (restartGrantTimer step s).settings = s.settings
    ∧ (restartGrantTimer step s).freeIndex = s.freeIndex
    ∧ (restartGrantTimer step s).exchange = s.exchange ∧ (restartGrantTimer step s).supply = s.supply
    ∧ (restartGrantTimer step s).gauge = s.gauge ∧ (restartGrantTimer step s).journal = s.journal
    ∧ (restartGrantTimer step s).context = s.context ∧ (restartGrantTimer step s).assessor = s.assessor
    ∧ (restartGrantTimer step s).line = s.line ∧ (restartGrantTimer step s).view = s.view
    ∧ (restartGrantTimer step s).admission.claim = s.admission.claim
    ∧ (restartGrantTimer step s).admission.ductEpisode = s.admission.ductEpisode
    ∧ (restartGrantTimer step s).admission.held = s.admission.held
    ∧ (restartGrantTimer step s).admission.pending = s.admission.pending
    ∧ (restartGrantTimer step s).admission.shedSettle = s.admission.shedSettle
    ∧ (restartGrantTimer step s).admission.testAtTick = s.admission.testAtTick
    ∧ (restartGrantTimer step s).admission.waiters = s.admission.waiters
    ∧ (restartGrantTimer step s).permits = s.permits ∧ (restartGrantTimer step s).port = s.port := by
  unfold restartGrantTimer; split <;> simp

@[simp] theorem ductTest_frame (s : State) :
    (ductTest s).pending = s.pending ∧ (ductTest s).power = s.power ∧ (ductTest s).settings = s.settings
    ∧ (ductTest s).freeIndex = s.freeIndex ∧ (ductTest s).exchange = s.exchange
    ∧ (ductTest s).supply = s.supply ∧ (ductTest s).gauge = s.gauge ∧ (ductTest s).journal = s.journal
    ∧ (ductTest s).context = s.context ∧ (ductTest s).assessor = s.assessor ∧ (ductTest s).line = s.line
    ∧ (ductTest s).view = s.view ∧ (ductTest s).admission.claim = s.admission.claim
    ∧ (ductTest s).admission.held = s.admission.held
    ∧ (ductTest s).admission.pending = s.admission.pending
    ∧ (ductTest s).admission.ramp = s.admission.ramp
    ∧ (ductTest s).admission.shedSettle = s.admission.shedSettle
    ∧ (ductTest s).admission.spacing = s.admission.spacing
    ∧ (ductTest s).admission.testAtTick = s.admission.testAtTick
    ∧ (ductTest s).admission.waiters = s.admission.waiters ∧ (ductTest s).permits = s.permits
    ∧ (ductTest s).port.inService = s.port.inService
    ∧ (ductTest s).port.progressRejected = s.port.progressRejected
    ∧ (ductTest s).port.requests = s.port.requests ∧ (ductTest s).port.sdo = s.port.sdo := by
  unfold ductTest; dsimp only; (repeat' split) <;> simp

@[simp] theorem grantStep_frame (p : StepRequest) (s : State) :
    (grantStep p s).pending = s.pending ∧ (grantStep p s).power = s.power
    ∧ (grantStep p s).settings = s.settings ∧ (grantStep p s).freeIndex = s.freeIndex
    ∧ (grantStep p s).exchange = s.exchange ∧ (grantStep p s).supply = s.supply
    ∧ (grantStep p s).gauge = s.gauge ∧ (grantStep p s).journal = s.journal
    ∧ (grantStep p s).context = s.context ∧ (grantStep p s).assessor = s.assessor
    ∧ (grantStep p s).view = s.view ∧ (grantStep p s).admission.shedSettle = s.admission.shedSettle
    ∧ (grantStep p s).admission.testAtTick = s.admission.testAtTick
    ∧ (grantStep p s).admission.waiters = s.admission.waiters
    ∧ (grantStep p s).permits.doorCount = s.permits.doorCount
    ∧ (grantStep p s).permits.doorOpen = s.permits.doorOpen
    ∧ (grantStep p s).permits.doorRaw = s.permits.doorRaw
    ∧ (grantStep p s).permits.doorInput = s.permits.doorInput
    ∧ (grantStep p s).port.inService = s.port.inService
    ∧ (grantStep p s).port.progressRejected = s.port.progressRejected
    ∧ (grantStep p s).port.requests = s.port.requests ∧ (grantStep p s).port.sdo = s.port.sdo
    ∧ (grantStep p s).line.mode = s.line.mode
    ∧ (grantStep p s).line.duplicateMark = s.line.duplicateMark
    ∧ (grantStep p s).line.presenceRunning = s.line.presenceRunning
    ∧ (grantStep p s).line.presenceTicks = s.line.presenceTicks
    ∧ (grantStep p s).line.joinRunning = s.line.joinRunning
    ∧ (grantStep p s).line.joinTicks = s.line.joinTicks
    ∧ (grantStep p s).line.joinSlotDone = s.line.joinSlotDone
    ∧ (grantStep p s).line.receiver = s.line.receiver := by
  simp [grantStep]

@[simp] theorem putBack_frame (step : Nat) (tag : Byte) (s : State) :
    (putBack step tag s).pending = s.pending ∧ (putBack step tag s).power = s.power
    ∧ (putBack step tag s).settings = s.settings ∧ (putBack step tag s).freeIndex = s.freeIndex
    ∧ (putBack step tag s).exchange = s.exchange ∧ (putBack step tag s).supply = s.supply
    ∧ (putBack step tag s).gauge = s.gauge ∧ (putBack step tag s).journal = s.journal
    ∧ (putBack step tag s).context = s.context ∧ (putBack step tag s).assessor = s.assessor
    ∧ (putBack step tag s).line = s.line ∧ (putBack step tag s).view = s.view
    ∧ (putBack step tag s).admission.claim = s.admission.claim
    ∧ (putBack step tag s).admission.ductEpisode = s.admission.ductEpisode
    ∧ (putBack step tag s).admission.held = s.admission.held
    ∧ (putBack step tag s).admission.ramp = s.admission.ramp
    ∧ (putBack step tag s).admission.shedSettle = s.admission.shedSettle
    ∧ (putBack step tag s).admission.spacing = s.admission.spacing
    ∧ (putBack step tag s).admission.testAtTick = s.admission.testAtTick
    ∧ (putBack step tag s).admission.waiters = s.admission.waiters
    ∧ (putBack step tag s).permits = s.permits ∧ (putBack step tag s).port = s.port := by
  unfold putBack; split <;> simp

@[simp] theorem shed_frame (s : State) :
    (shed s).pending = s.pending ∧ (shed s).power = s.power ∧ (shed s).settings = s.settings
    ∧ (shed s).freeIndex = s.freeIndex ∧ (shed s).exchange = s.exchange ∧ (shed s).supply = s.supply
    ∧ (shed s).gauge = s.gauge ∧ (shed s).journal = s.journal ∧ (shed s).context = s.context
    ∧ (shed s).assessor = s.assessor ∧ (shed s).view = s.view ∧ (shed s).line.mode = s.line.mode
    ∧ (shed s).line.duplicateMark = s.line.duplicateMark
    ∧ (shed s).line.presenceRunning = s.line.presenceRunning
    ∧ (shed s).line.presenceTicks = s.line.presenceTicks
    ∧ (shed s).line.joinRunning = s.line.joinRunning ∧ (shed s).line.joinTicks = s.line.joinTicks
    ∧ (shed s).line.joinSlotDone = s.line.joinSlotDone ∧ (shed s).line.receiver = s.line.receiver
    ∧ (shed s).permits.doorOpen = s.permits.doorOpen ∧ (shed s).permits.doorCount = s.permits.doorCount
    ∧ (shed s).permits.doorRaw = s.permits.doorRaw
    ∧ (shed s).permits.doorInput = s.permits.doorInput ∧ (shed s).port.requests = s.port.requests
    ∧ (shed s).port.inService = s.port.inService
    ∧ (shed s).port.progressRejected = s.port.progressRejected ∧ (shed s).port.sdo = s.port.sdo
    ∧ (shed s).admission.spacing = s.admission.spacing ∧ (shed s).admission.ramp = s.admission.ramp
    ∧ (shed s).admission.ductEpisode = s.admission.ductEpisode := by
  unfold shed; (repeat' split) <;> simp

@[simp] theorem overcommitTest_frame (s : State) :
    (overcommitTest s).pending = s.pending ∧ (overcommitTest s).power = s.power
    ∧ (overcommitTest s).settings = s.settings ∧ (overcommitTest s).freeIndex = s.freeIndex
    ∧ (overcommitTest s).exchange = s.exchange ∧ (overcommitTest s).supply = s.supply
    ∧ (overcommitTest s).gauge = s.gauge ∧ (overcommitTest s).journal = s.journal
    ∧ (overcommitTest s).context = s.context ∧ (overcommitTest s).assessor = s.assessor
    ∧ (overcommitTest s).view = s.view ∧ (overcommitTest s).line.mode = s.line.mode
    ∧ (overcommitTest s).line.duplicateMark = s.line.duplicateMark
    ∧ (overcommitTest s).line.presenceRunning = s.line.presenceRunning
    ∧ (overcommitTest s).line.presenceTicks = s.line.presenceTicks
    ∧ (overcommitTest s).line.joinRunning = s.line.joinRunning
    ∧ (overcommitTest s).line.joinTicks = s.line.joinTicks
    ∧ (overcommitTest s).line.joinSlotDone = s.line.joinSlotDone
    ∧ (overcommitTest s).line.receiver = s.line.receiver
    ∧ (overcommitTest s).permits.doorOpen = s.permits.doorOpen
    ∧ (overcommitTest s).permits.doorCount = s.permits.doorCount
    ∧ (overcommitTest s).permits.doorRaw = s.permits.doorRaw
    ∧ (overcommitTest s).permits.doorInput = s.permits.doorInput
    ∧ (overcommitTest s).port.requests = s.port.requests
    ∧ (overcommitTest s).port.inService = s.port.inService
    ∧ (overcommitTest s).port.progressRejected = s.port.progressRejected
    ∧ (overcommitTest s).port.sdo = s.port.sdo
    ∧ (overcommitTest s).admission.spacing = s.admission.spacing
    ∧ (overcommitTest s).admission.ramp = s.admission.ramp
    ∧ (overcommitTest s).admission.ductEpisode = s.admission.ductEpisode := by
  unfold overcommitTest; split <;> simp

@[simp] theorem capHeldSteps_frame (s : State) :
    (capHeldSteps s).pending = s.pending ∧ (capHeldSteps s).power = s.power
    ∧ (capHeldSteps s).settings = s.settings ∧ (capHeldSteps s).freeIndex = s.freeIndex
    ∧ (capHeldSteps s).exchange = s.exchange ∧ (capHeldSteps s).supply = s.supply
    ∧ (capHeldSteps s).gauge = s.gauge ∧ (capHeldSteps s).journal = s.journal
    ∧ (capHeldSteps s).context = s.context ∧ (capHeldSteps s).assessor = s.assessor
    ∧ (capHeldSteps s).view = s.view ∧ (capHeldSteps s).line.mode = s.line.mode
    ∧ (capHeldSteps s).line.duplicateMark = s.line.duplicateMark
    ∧ (capHeldSteps s).line.presenceRunning = s.line.presenceRunning
    ∧ (capHeldSteps s).line.presenceTicks = s.line.presenceTicks
    ∧ (capHeldSteps s).line.joinRunning = s.line.joinRunning
    ∧ (capHeldSteps s).line.joinTicks = s.line.joinTicks
    ∧ (capHeldSteps s).line.joinSlotDone = s.line.joinSlotDone
    ∧ (capHeldSteps s).line.receiver = s.line.receiver
    ∧ (capHeldSteps s).permits.doorOpen = s.permits.doorOpen
    ∧ (capHeldSteps s).permits.doorCount = s.permits.doorCount
    ∧ (capHeldSteps s).permits.doorRaw = s.permits.doorRaw
    ∧ (capHeldSteps s).permits.doorInput = s.permits.doorInput
    ∧ (capHeldSteps s).port.requests = s.port.requests
    ∧ (capHeldSteps s).port.inService = s.port.inService
    ∧ (capHeldSteps s).port.progressRejected = s.port.progressRejected
    ∧ (capHeldSteps s).port.sdo = s.port.sdo ∧ (capHeldSteps s).admission.spacing = s.admission.spacing
    ∧ (capHeldSteps s).admission.ramp = s.admission.ramp
    ∧ (capHeldSteps s).admission.ductEpisode = s.admission.ductEpisode
    ∧ (capHeldSteps s).admission.shedSettle = s.admission.shedSettle := by
  unfold capHeldSteps; dsimp only; split <;> simp

@[simp] theorem soloEntry_frame (s : State) :
    (soloEntry s).pending = s.pending ∧ (soloEntry s).power = s.power
    ∧ (soloEntry s).settings = s.settings ∧ (soloEntry s).freeIndex = s.freeIndex
    ∧ (soloEntry s).exchange = s.exchange ∧ (soloEntry s).supply = s.supply
    ∧ (soloEntry s).gauge = s.gauge ∧ (soloEntry s).journal = s.journal
    ∧ (soloEntry s).context = s.context ∧ (soloEntry s).assessor = s.assessor
    ∧ (soloEntry s).view = s.view ∧ (soloEntry s).line.mode = s.line.mode
    ∧ (soloEntry s).line.duplicateMark = s.line.duplicateMark
    ∧ (soloEntry s).line.presenceRunning = s.line.presenceRunning
    ∧ (soloEntry s).line.presenceTicks = s.line.presenceTicks
    ∧ (soloEntry s).line.joinRunning = s.line.joinRunning
    ∧ (soloEntry s).line.joinTicks = s.line.joinTicks
    ∧ (soloEntry s).line.joinSlotDone = s.line.joinSlotDone
    ∧ (soloEntry s).line.receiver = s.line.receiver
    ∧ (soloEntry s).permits.doorOpen = s.permits.doorOpen
    ∧ (soloEntry s).permits.doorCount = s.permits.doorCount
    ∧ (soloEntry s).permits.doorRaw = s.permits.doorRaw
    ∧ (soloEntry s).permits.doorInput = s.permits.doorInput ∧ (soloEntry s).port.requests = s.port.requests
    ∧ (soloEntry s).port.inService = s.port.inService
    ∧ (soloEntry s).port.progressRejected = s.port.progressRejected
    ∧ (soloEntry s).port.sdo = s.port.sdo ∧ (soloEntry s).admission.spacing = s.admission.spacing
    ∧ (soloEntry s).admission.ramp = s.admission.ramp
    ∧ (soloEntry s).admission.ductEpisode = s.admission.ductEpisode
    ∧ (soloEntry s).admission.shedSettle = s.admission.shedSettle := by
  unfold soloEntry; dsimp only; (repeat' split) <;> simp

@[simp] theorem retestClaim_frame (s : State) :
    (retestClaim s).pending = s.pending ∧ (retestClaim s).power = s.power
    ∧ (retestClaim s).settings = s.settings ∧ (retestClaim s).freeIndex = s.freeIndex
    ∧ (retestClaim s).exchange = s.exchange ∧ (retestClaim s).supply = s.supply
    ∧ (retestClaim s).gauge = s.gauge ∧ (retestClaim s).journal = s.journal
    ∧ (retestClaim s).context = s.context ∧ (retestClaim s).assessor = s.assessor
    ∧ (retestClaim s).view = s.view ∧ (retestClaim s).admission.ductEpisode = s.admission.ductEpisode
    ∧ (retestClaim s).admission.held = s.admission.held
    ∧ (retestClaim s).admission.pending = s.admission.pending
    ∧ (retestClaim s).admission.ramp = s.admission.ramp
    ∧ (retestClaim s).admission.shedSettle = s.admission.shedSettle
    ∧ (retestClaim s).admission.spacing = s.admission.spacing
    ∧ (retestClaim s).admission.waiters = s.admission.waiters ∧ (retestClaim s).permits = s.permits
    ∧ (retestClaim s).port = s.port ∧ (retestClaim s).line.mode = s.line.mode
    ∧ (retestClaim s).line.duplicateMark = s.line.duplicateMark
    ∧ (retestClaim s).line.presenceRunning = s.line.presenceRunning
    ∧ (retestClaim s).line.presenceTicks = s.line.presenceTicks
    ∧ (retestClaim s).line.joinRunning = s.line.joinRunning
    ∧ (retestClaim s).line.joinTicks = s.line.joinTicks
    ∧ (retestClaim s).line.joinSlotDone = s.line.joinSlotDone
    ∧ (retestClaim s).line.receiver = s.line.receiver := by
  unfold retestClaim; (repeat' split) <;> simp

@[simp] theorem viewChange_frame (s : State) :
    (viewChange s).pending = s.pending ∧ (viewChange s).power = s.power
    ∧ (viewChange s).settings = s.settings ∧ (viewChange s).freeIndex = s.freeIndex
    ∧ (viewChange s).exchange = s.exchange ∧ (viewChange s).supply = s.supply
    ∧ (viewChange s).gauge = s.gauge ∧ (viewChange s).journal = s.journal
    ∧ (viewChange s).context = s.context ∧ (viewChange s).assessor = s.assessor
    ∧ (viewChange s).view = s.view ∧ (viewChange s).line.mode = s.line.mode
    ∧ (viewChange s).line.duplicateMark = s.line.duplicateMark
    ∧ (viewChange s).line.presenceRunning = s.line.presenceRunning
    ∧ (viewChange s).line.presenceTicks = s.line.presenceTicks
    ∧ (viewChange s).line.joinRunning = s.line.joinRunning
    ∧ (viewChange s).line.joinTicks = s.line.joinTicks
    ∧ (viewChange s).line.joinSlotDone = s.line.joinSlotDone
    ∧ (viewChange s).line.receiver = s.line.receiver
    ∧ (viewChange s).permits.doorOpen = s.permits.doorOpen
    ∧ (viewChange s).permits.doorCount = s.permits.doorCount
    ∧ (viewChange s).permits.doorRaw = s.permits.doorRaw
    ∧ (viewChange s).permits.doorInput = s.permits.doorInput
    ∧ (viewChange s).port.requests = s.port.requests ∧ (viewChange s).port.inService = s.port.inService
    ∧ (viewChange s).port.progressRejected = s.port.progressRejected
    ∧ (viewChange s).port.sdo = s.port.sdo ∧ (viewChange s).admission.spacing = s.admission.spacing
    ∧ (viewChange s).admission.ramp = s.admission.ramp := by
  unfold viewChange; dsimp only; split <;> simp

@[simp] theorem peerMotorStart_frame (s : State) :
    (peerMotorStart s).pending = s.pending ∧ (peerMotorStart s).power = s.power
    ∧ (peerMotorStart s).settings = s.settings ∧ (peerMotorStart s).freeIndex = s.freeIndex
    ∧ (peerMotorStart s).exchange = s.exchange ∧ (peerMotorStart s).supply = s.supply
    ∧ (peerMotorStart s).gauge = s.gauge ∧ (peerMotorStart s).journal = s.journal
    ∧ (peerMotorStart s).context = s.context ∧ (peerMotorStart s).assessor = s.assessor
    ∧ (peerMotorStart s).view = s.view
    ∧ (peerMotorStart s).admission.ductEpisode = s.admission.ductEpisode
    ∧ (peerMotorStart s).admission.held = s.admission.held
    ∧ (peerMotorStart s).admission.pending = s.admission.pending
    ∧ (peerMotorStart s).admission.ramp = s.admission.ramp
    ∧ (peerMotorStart s).admission.shedSettle = s.admission.shedSettle
    ∧ (peerMotorStart s).admission.waiters = s.admission.waiters
    ∧ (peerMotorStart s).permits = s.permits ∧ (peerMotorStart s).port = s.port
    ∧ (peerMotorStart s).line.mode = s.line.mode
    ∧ (peerMotorStart s).line.duplicateMark = s.line.duplicateMark
    ∧ (peerMotorStart s).line.presenceRunning = s.line.presenceRunning
    ∧ (peerMotorStart s).line.presenceTicks = s.line.presenceTicks
    ∧ (peerMotorStart s).line.joinRunning = s.line.joinRunning
    ∧ (peerMotorStart s).line.joinTicks = s.line.joinTicks
    ∧ (peerMotorStart s).line.joinSlotDone = s.line.joinSlotDone
    ∧ (peerMotorStart s).line.receiver = s.line.receiver := by
  unfold peerMotorStart; dsimp only; (repeat' split) <;> simp

end Sys2Proof.Machine
end

