-- ==== Sys2Proof/Laws/FramesAssessor.lean ====
section
/-! SUPPORT. The frames of the Resume Assessor's operations: the fields each leaves as they are. -/

namespace Sys2Proof.Machine

@[simp] theorem postPlan_frame (p : Plan) (s : State) :
    (postPlan p s).pending = s.pending ∧ (postPlan p s).power = s.power
    ∧ (postPlan p s).settings = s.settings ∧ (postPlan p s).freeIndex = s.freeIndex
    ∧ (postPlan p s).exchange = s.exchange ∧ (postPlan p s).supply = s.supply
    ∧ (postPlan p s).gauge = s.gauge ∧ (postPlan p s).journal = s.journal
    ∧ (postPlan p s).context = s.context ∧ (postPlan p s).assessor = s.assessor
    ∧ (postPlan p s).line = s.line ∧ (postPlan p s).view = s.view
    ∧ (postPlan p s).admission = s.admission ∧ (postPlan p s).permits = s.permits
    ∧ (postPlan p s).port.inService = s.port.inService
    ∧ (postPlan p s).port.progressRejected = s.port.progressRejected
    ∧ (postPlan p s).port.requests = s.port.requests ∧ (postPlan p s).port.sdo = s.port.sdo := by
  simp [postPlan]

@[simp] theorem postPlanFinal_frame (p : Plan) (s : State) :
    (postPlanFinal p s).pending = s.pending ∧ (postPlanFinal p s).power = s.power
    ∧ (postPlanFinal p s).settings = s.settings ∧ (postPlanFinal p s).freeIndex = s.freeIndex
    ∧ (postPlanFinal p s).exchange = s.exchange ∧ (postPlanFinal p s).supply = s.supply
    ∧ (postPlanFinal p s).gauge = s.gauge ∧ (postPlanFinal p s).journal = s.journal
    ∧ (postPlanFinal p s).context = s.context ∧ (postPlanFinal p s).assessor = s.assessor
    ∧ (postPlanFinal p s).line = s.line ∧ (postPlanFinal p s).view = s.view
    ∧ (postPlanFinal p s).admission = s.admission ∧ (postPlanFinal p s).permits = s.permits
    ∧ (postPlanFinal p s).port.inService = s.port.inService
    ∧ (postPlanFinal p s).port.progressRejected = s.port.progressRejected
    ∧ (postPlanFinal p s).port.requests = s.port.requests ∧ (postPlanFinal p s).port.sdo = s.port.sdo := by
  simp [postPlanFinal]

@[simp] theorem setPlan_frame (p : Plan) (awaiting : Bool) (s : State) :
    (setPlan p awaiting s).pending = s.pending ∧ (setPlan p awaiting s).power = s.power
    ∧ (setPlan p awaiting s).settings = s.settings ∧ (setPlan p awaiting s).freeIndex = s.freeIndex
    ∧ (setPlan p awaiting s).exchange = s.exchange ∧ (setPlan p awaiting s).supply = s.supply
    ∧ (setPlan p awaiting s).gauge = s.gauge ∧ (setPlan p awaiting s).journal = s.journal
    ∧ (setPlan p awaiting s).context.aged = s.context.aged
    ∧ (setPlan p awaiting s).context.base = s.context.base
    ∧ (setPlan p awaiting s).context.cycleState = s.context.cycleState
    ∧ (setPlan p awaiting s).context.doorSeen = s.context.doorSeen
    ∧ (setPlan p awaiting s).context.freshRunning = s.context.freshRunning
    ∧ (setPlan p awaiting s).context.freshTicks = s.context.freshTicks
    ∧ (setPlan p awaiting s).context.progress = s.context.progress
    ∧ (setPlan p awaiting s).context.stale = s.context.stale
    ∧ (setPlan p awaiting s).context.still = s.context.still
    ∧ (setPlan p awaiting s).context.stillStarted = s.context.stillStarted
    ∧ (setPlan p awaiting s).context.stillTicks = s.context.stillTicks
    ∧ (setPlan p awaiting s).context.stopReason = s.context.stopReason
    ∧ (setPlan p awaiting s).assessor.estimateMark = s.assessor.estimateMark
    ∧ (setPlan p awaiting s).assessor.gaugeOff = s.assessor.gaugeOff
    ∧ (setPlan p awaiting s).assessor.stage = s.assessor.stage ∧ (setPlan p awaiting s).line = s.line
    ∧ (setPlan p awaiting s).view = s.view ∧ (setPlan p awaiting s).admission = s.admission
    ∧ (setPlan p awaiting s).permits = s.permits ∧ (setPlan p awaiting s).port = s.port := by
  simp [setPlan]

@[simp] theorem actOnPlan_frame (p : Plan) (s : State) :
    (actOnPlan p s).pending = s.pending ∧ (actOnPlan p s).power = s.power
    ∧ (actOnPlan p s).settings = s.settings ∧ (actOnPlan p s).freeIndex = s.freeIndex
    ∧ (actOnPlan p s).supply = s.supply ∧ (actOnPlan p s).gauge = s.gauge
    ∧ (actOnPlan p s).journal.intervalRunning = s.journal.intervalRunning
    ∧ (actOnPlan p s).journal.intervalTicks = s.journal.intervalTicks
    ∧ (actOnPlan p s).journal.slots = s.journal.slots
    ∧ (actOnPlan p s).context.freshTicks = s.context.freshTicks
    ∧ (actOnPlan p s).context.stillStarted = s.context.stillStarted
    ∧ (actOnPlan p s).assessor.gaugeOff = s.assessor.gaugeOff ∧ (actOnPlan p s).line = s.line
    ∧ (actOnPlan p s).view = s.view ∧ (actOnPlan p s).admission = s.admission
    ∧ (actOnPlan p s).permits = s.permits ∧ (actOnPlan p s).port.inService = s.port.inService
    ∧ (actOnPlan p s).port.progressRejected = s.port.progressRejected
    ∧ (actOnPlan p s).port.requests = s.port.requests ∧ (actOnPlan p s).port.sdo = s.port.sdo := by
  unfold actOnPlan; split <;> simp

@[simp] theorem assess_frame (source : OffSource) (off : OffTime) (carried : Nat) (s : State) :
    (assess source off carried s).pending = s.pending ∧ (assess source off carried s).power = s.power
    ∧ (assess source off carried s).settings = s.settings
    ∧ (assess source off carried s).freeIndex = s.freeIndex
    ∧ (assess source off carried s).supply = s.supply ∧ (assess source off carried s).gauge = s.gauge
    ∧ (assess source off carried s).journal.intervalRunning = s.journal.intervalRunning
    ∧ (assess source off carried s).journal.intervalTicks = s.journal.intervalTicks
    ∧ (assess source off carried s).journal.slots = s.journal.slots
    ∧ (assess source off carried s).context.freshTicks = s.context.freshTicks
    ∧ (assess source off carried s).context.stillStarted = s.context.stillStarted
    ∧ (assess source off carried s).assessor.gaugeOff = s.assessor.gaugeOff
    ∧ (assess source off carried s).line = s.line ∧ (assess source off carried s).view = s.view
    ∧ (assess source off carried s).admission = s.admission
    ∧ (assess source off carried s).permits = s.permits
    ∧ (assess source off carried s).port.inService = s.port.inService
    ∧ (assess source off carried s).port.progressRejected = s.port.progressRejected
    ∧ (assess source off carried s).port.requests = s.port.requests
    ∧ (assess source off carried s).port.sdo = s.port.sdo := by
  unfold assess; (repeat' split) <;> simp

@[simp] theorem finalise_frame (s : State) :
    (finalise s).pending = s.pending ∧ (finalise s).power = s.power ∧ (finalise s).settings = s.settings
    ∧ (finalise s).freeIndex = s.freeIndex ∧ (finalise s).supply = s.supply
    ∧ (finalise s).gauge = s.gauge ∧ (finalise s).journal.intervalRunning = s.journal.intervalRunning
    ∧ (finalise s).journal.intervalTicks = s.journal.intervalTicks
    ∧ (finalise s).journal.slots = s.journal.slots ∧ (finalise s).context.aged = s.context.aged
    ∧ (finalise s).context.stale = s.context.stale
    ∧ (finalise s).context.stillStarted = s.context.stillStarted
    ∧ (finalise s).context.stopReason = s.context.stopReason
    ∧ (finalise s).assessor.gaugeOff = s.assessor.gaugeOff ∧ (finalise s).line = s.line
    ∧ (finalise s).view = s.view ∧ (finalise s).admission = s.admission
    ∧ (finalise s).permits = s.permits ∧ (finalise s).port.inService = s.port.inService
    ∧ (finalise s).port.progressRejected = s.port.progressRejected
    ∧ (finalise s).port.requests = s.port.requests ∧ (finalise s).port.sdo = s.port.sdo := by
  unfold finalise; split <;> simp

@[simp] theorem cancelStep_frame (step : Nat) (s : State) :
    (cancelStep step s).pending = s.pending ∧ (cancelStep step s).power = s.power
    ∧ (cancelStep step s).settings = s.settings ∧ (cancelStep step s).freeIndex = s.freeIndex
    ∧ (cancelStep step s).exchange = s.exchange ∧ (cancelStep step s).supply = s.supply
    ∧ (cancelStep step s).gauge = s.gauge ∧ (cancelStep step s).journal = s.journal
    ∧ (cancelStep step s).context = s.context ∧ (cancelStep step s).assessor = s.assessor
    ∧ (cancelStep step s).line = s.line ∧ (cancelStep step s).view = s.view
    ∧ (cancelStep step s).admission.claim = s.admission.claim
    ∧ (cancelStep step s).admission.ductEpisode = s.admission.ductEpisode
    ∧ (cancelStep step s).admission.held = s.admission.held
    ∧ (cancelStep step s).admission.ramp = s.admission.ramp
    ∧ (cancelStep step s).admission.shedSettle = s.admission.shedSettle
    ∧ (cancelStep step s).admission.spacing = s.admission.spacing
    ∧ (cancelStep step s).admission.testAtTick = s.admission.testAtTick
    ∧ (cancelStep step s).admission.waiters = s.admission.waiters
    ∧ (cancelStep step s).permits = s.permits ∧ (cancelStep step s).port.eventsLost = s.port.eventsLost
    ∧ (cancelStep step s).port.inService = s.port.inService
    ∧ (cancelStep step s).port.progressRejected = s.port.progressRejected
    ∧ (cancelStep step s).port.requests = s.port.requests ∧ (cancelStep step s).port.sdo = s.port.sdo := by
  unfold cancelStep; split <;> simp

@[simp] theorem postExpiry_frame (s : State) :
    (postExpiry s).pending = s.pending ∧ (postExpiry s).power = s.power
    ∧ (postExpiry s).settings = s.settings ∧ (postExpiry s).freeIndex = s.freeIndex
    ∧ (postExpiry s).exchange = s.exchange ∧ (postExpiry s).supply = s.supply
    ∧ (postExpiry s).gauge = s.gauge ∧ (postExpiry s).journal = s.journal
    ∧ (postExpiry s).context = s.context ∧ (postExpiry s).assessor = s.assessor
    ∧ (postExpiry s).line = s.line ∧ (postExpiry s).view = s.view
    ∧ (postExpiry s).admission = s.admission ∧ (postExpiry s).permits = s.permits
    ∧ (postExpiry s).port.inService = s.port.inService
    ∧ (postExpiry s).port.progressRejected = s.port.progressRejected
    ∧ (postExpiry s).port.requests = s.port.requests ∧ (postExpiry s).port.sdo = s.port.sdo := by
  unfold postExpiry; split <;> simp

@[simp] theorem guardExpiry_frame (s : State) :
    (guardExpiry s).pending = s.pending ∧ (guardExpiry s).power = s.power
    ∧ (guardExpiry s).settings = s.settings ∧ (guardExpiry s).freeIndex = s.freeIndex
    ∧ (guardExpiry s).supply = s.supply ∧ (guardExpiry s).gauge = s.gauge
    ∧ (guardExpiry s).journal.intervalRunning = s.journal.intervalRunning
    ∧ (guardExpiry s).journal.intervalTicks = s.journal.intervalTicks
    ∧ (guardExpiry s).journal.slots = s.journal.slots
    ∧ (guardExpiry s).context.freshTicks = s.context.freshTicks
    ∧ (guardExpiry s).context.stillStarted = s.context.stillStarted
    ∧ (guardExpiry s).assessor.gaugeOff = s.assessor.gaugeOff ∧ (guardExpiry s).view = s.view
    ∧ (guardExpiry s).admission.ductEpisode = s.admission.ductEpisode
    ∧ (guardExpiry s).admission.held = s.admission.held
    ∧ (guardExpiry s).admission.ramp = s.admission.ramp
    ∧ (guardExpiry s).admission.shedSettle = s.admission.shedSettle
    ∧ (guardExpiry s).admission.spacing = s.admission.spacing
    ∧ (guardExpiry s).admission.waiters = s.admission.waiters ∧ (guardExpiry s).permits = s.permits
    ∧ (guardExpiry s).port.inService = s.port.inService
    ∧ (guardExpiry s).port.progressRejected = s.port.progressRejected
    ∧ (guardExpiry s).port.requests = s.port.requests ∧ (guardExpiry s).port.sdo = s.port.sdo
    ∧ (guardExpiry s).line.mode = s.line.mode
    ∧ (guardExpiry s).line.duplicateMark = s.line.duplicateMark
    ∧ (guardExpiry s).line.presenceRunning = s.line.presenceRunning
    ∧ (guardExpiry s).line.presenceTicks = s.line.presenceTicks
    ∧ (guardExpiry s).line.joinRunning = s.line.joinRunning
    ∧ (guardExpiry s).line.joinTicks = s.line.joinTicks
    ∧ (guardExpiry s).line.joinSlotDone = s.line.joinSlotDone
    ∧ (guardExpiry s).line.receiver = s.line.receiver := by
  simp [guardExpiry]

@[simp] theorem guardTest_frame (s : State) :
    (guardTest s).pending = s.pending ∧ (guardTest s).power = s.power
    ∧ (guardTest s).settings = s.settings ∧ (guardTest s).freeIndex = s.freeIndex
    ∧ (guardTest s).supply = s.supply ∧ (guardTest s).gauge = s.gauge
    ∧ (guardTest s).journal.intervalRunning = s.journal.intervalRunning
    ∧ (guardTest s).journal.intervalTicks = s.journal.intervalTicks
    ∧ (guardTest s).journal.slots = s.journal.slots
    ∧ (guardTest s).context.freshTicks = s.context.freshTicks
    ∧ (guardTest s).context.stillStarted = s.context.stillStarted
    ∧ (guardTest s).assessor.gaugeOff = s.assessor.gaugeOff ∧ (guardTest s).view = s.view
    ∧ (guardTest s).admission.ductEpisode = s.admission.ductEpisode
    ∧ (guardTest s).admission.held = s.admission.held ∧ (guardTest s).admission.ramp = s.admission.ramp
    ∧ (guardTest s).admission.shedSettle = s.admission.shedSettle
    ∧ (guardTest s).admission.spacing = s.admission.spacing
    ∧ (guardTest s).admission.waiters = s.admission.waiters ∧ (guardTest s).permits = s.permits
    ∧ (guardTest s).port.inService = s.port.inService
    ∧ (guardTest s).port.progressRejected = s.port.progressRejected
    ∧ (guardTest s).port.requests = s.port.requests ∧ (guardTest s).port.sdo = s.port.sdo
    ∧ (guardTest s).line.mode = s.line.mode ∧ (guardTest s).line.duplicateMark = s.line.duplicateMark
    ∧ (guardTest s).line.presenceRunning = s.line.presenceRunning
    ∧ (guardTest s).line.presenceTicks = s.line.presenceTicks
    ∧ (guardTest s).line.joinRunning = s.line.joinRunning
    ∧ (guardTest s).line.joinTicks = s.line.joinTicks
    ∧ (guardTest s).line.joinSlotDone = s.line.joinSlotDone
    ∧ (guardTest s).line.receiver = s.line.receiver := by
  unfold guardTest; split <;> simp

@[simp] theorem grant_frame (p : StepRequest) (s : State) :
    (grant p s).pending = s.pending ∧ (grant p s).power = s.power ∧ (grant p s).settings = s.settings
    ∧ (grant p s).freeIndex = s.freeIndex ∧ (grant p s).supply = s.supply ∧ (grant p s).gauge = s.gauge
    ∧ (grant p s).journal.intervalRunning = s.journal.intervalRunning
    ∧ (grant p s).journal.intervalTicks = s.journal.intervalTicks
    ∧ (grant p s).journal.slots = s.journal.slots ∧ (grant p s).context.aged = s.context.aged
    ∧ (grant p s).context.stale = s.context.stale
    ∧ (grant p s).context.stillStarted = s.context.stillStarted
    ∧ (grant p s).context.stopReason = s.context.stopReason
    ∧ (grant p s).assessor.gaugeOff = s.assessor.gaugeOff ∧ (grant p s).view = s.view
    ∧ (grant p s).admission.shedSettle = s.admission.shedSettle
    ∧ (grant p s).admission.testAtTick = s.admission.testAtTick
    ∧ (grant p s).admission.waiters = s.admission.waiters
    ∧ (grant p s).permits.doorCount = s.permits.doorCount
    ∧ (grant p s).permits.doorOpen = s.permits.doorOpen
    ∧ (grant p s).permits.doorRaw = s.permits.doorRaw
    ∧ (grant p s).permits.doorInput = s.permits.doorInput ∧ (grant p s).port.inService = s.port.inService
    ∧ (grant p s).port.progressRejected = s.port.progressRejected
    ∧ (grant p s).port.requests = s.port.requests ∧ (grant p s).port.sdo = s.port.sdo
    ∧ (grant p s).line.mode = s.line.mode ∧ (grant p s).line.duplicateMark = s.line.duplicateMark
    ∧ (grant p s).line.presenceRunning = s.line.presenceRunning
    ∧ (grant p s).line.presenceTicks = s.line.presenceTicks
    ∧ (grant p s).line.joinRunning = s.line.joinRunning ∧ (grant p s).line.joinTicks = s.line.joinTicks
    ∧ (grant p s).line.joinSlotDone = s.line.joinSlotDone
    ∧ (grant p s).line.receiver = s.line.receiver := by
  unfold grant; split <;> simp

end Sys2Proof.Machine
end

