-- ==== Sys2Proof/Laws/FramesLine.lean ====
section
/-! SUPPORT. The frames of the line's and the view's operations: the fields each leaves as they are. -/

namespace Sys2Proof.Machine

@[simp] theorem beginAttempt_frame (f : QueuedFrame) (s : State) :
    (beginAttempt f s).pending = s.pending ∧ (beginAttempt f s).power = s.power
    ∧ (beginAttempt f s).settings = s.settings ∧ (beginAttempt f s).exchange = s.exchange
    ∧ (beginAttempt f s).supply = s.supply ∧ (beginAttempt f s).gauge = s.gauge
    ∧ (beginAttempt f s).journal = s.journal ∧ (beginAttempt f s).context = s.context
    ∧ (beginAttempt f s).assessor = s.assessor
    ∧ (beginAttempt f s).line.duplicateMark = s.line.duplicateMark
    ∧ (beginAttempt f s).line.failures = s.line.failures
    ∧ (beginAttempt f s).line.joinRunning = s.line.joinRunning
    ∧ (beginAttempt f s).line.joinSlotDone = s.line.joinSlotDone
    ∧ (beginAttempt f s).line.joinTicks = s.line.joinTicks ∧ (beginAttempt f s).line.mode = s.line.mode
    ∧ (beginAttempt f s).line.presenceRunning = s.line.presenceRunning
    ∧ (beginAttempt f s).line.presenceTicks = s.line.presenceTicks
    ∧ (beginAttempt f s).line.queue = s.line.queue ∧ (beginAttempt f s).view = s.view
    ∧ (beginAttempt f s).admission = s.admission ∧ (beginAttempt f s).permits = s.permits
    ∧ (beginAttempt f s).port = s.port := by
  simp [beginAttempt]

@[simp] theorem restartPresence_frame (s : State) :
    (restartPresence s).pending = s.pending ∧ (restartPresence s).power = s.power
    ∧ (restartPresence s).settings = s.settings ∧ (restartPresence s).freeIndex = s.freeIndex
    ∧ (restartPresence s).exchange = s.exchange ∧ (restartPresence s).supply = s.supply
    ∧ (restartPresence s).gauge = s.gauge ∧ (restartPresence s).journal = s.journal
    ∧ (restartPresence s).context = s.context ∧ (restartPresence s).assessor = s.assessor
    ∧ (restartPresence s).line.attempt = s.line.attempt
    ∧ (restartPresence s).line.duplicateMark = s.line.duplicateMark
    ∧ (restartPresence s).line.failures = s.line.failures
    ∧ (restartPresence s).line.receiver = s.line.receiver
    ∧ (restartPresence s).line.joinRunning = s.line.joinRunning
    ∧ (restartPresence s).line.joinSlotDone = s.line.joinSlotDone
    ∧ (restartPresence s).line.joinTicks = s.line.joinTicks
    ∧ (restartPresence s).line.mode = s.line.mode ∧ (restartPresence s).line.queue = s.line.queue
    ∧ (restartPresence s).view = s.view ∧ (restartPresence s).admission = s.admission
    ∧ (restartPresence s).permits = s.permits ∧ (restartPresence s).port = s.port := by
  unfold restartPresence; split <;> simp

@[simp] theorem changeMode_frame (mode : LineMode) (cause : LineCause) (s : State) :
    (changeMode mode cause s).pending = s.pending ∧ (changeMode mode cause s).power = s.power
    ∧ (changeMode mode cause s).settings = s.settings
    ∧ (changeMode mode cause s).freeIndex = s.freeIndex
    ∧ (changeMode mode cause s).exchange = s.exchange ∧ (changeMode mode cause s).supply = s.supply
    ∧ (changeMode mode cause s).gauge = s.gauge ∧ (changeMode mode cause s).journal = s.journal
    ∧ (changeMode mode cause s).context = s.context ∧ (changeMode mode cause s).assessor = s.assessor
    ∧ (changeMode mode cause s).view = s.view
    ∧ (changeMode mode cause s).line.duplicateMark = s.line.duplicateMark
    ∧ (changeMode mode cause s).line.presenceRunning = s.line.presenceRunning
    ∧ (changeMode mode cause s).line.presenceTicks = s.line.presenceTicks
    ∧ (changeMode mode cause s).line.joinRunning = s.line.joinRunning
    ∧ (changeMode mode cause s).line.joinTicks = s.line.joinTicks
    ∧ (changeMode mode cause s).line.joinSlotDone = s.line.joinSlotDone
    ∧ (changeMode mode cause s).line.receiver = s.line.receiver
    ∧ (changeMode mode cause s).permits.doorOpen = s.permits.doorOpen
    ∧ (changeMode mode cause s).permits.doorCount = s.permits.doorCount
    ∧ (changeMode mode cause s).permits.doorRaw = s.permits.doorRaw
    ∧ (changeMode mode cause s).permits.doorInput = s.permits.doorInput
    ∧ (changeMode mode cause s).port.requests = s.port.requests
    ∧ (changeMode mode cause s).port.inService = s.port.inService
    ∧ (changeMode mode cause s).port.progressRejected = s.port.progressRejected
    ∧ (changeMode mode cause s).port.sdo = s.port.sdo
    ∧ (changeMode mode cause s).admission.spacing = s.admission.spacing
    ∧ (changeMode mode cause s).admission.ramp = s.admission.ramp
    ∧ (changeMode mode cause s).admission.ductEpisode = s.admission.ductEpisode
    ∧ (changeMode mode cause s).admission.shedSettle = s.admission.shedSettle := by
  unfold changeMode; split <;> simp

@[simp] theorem endJoinEarly_frame (s : State) :
    (endJoinEarly s).pending = s.pending ∧ (endJoinEarly s).power = s.power
    ∧ (endJoinEarly s).settings = s.settings ∧ (endJoinEarly s).freeIndex = s.freeIndex
    ∧ (endJoinEarly s).exchange = s.exchange ∧ (endJoinEarly s).supply = s.supply
    ∧ (endJoinEarly s).gauge = s.gauge ∧ (endJoinEarly s).journal = s.journal
    ∧ (endJoinEarly s).context = s.context ∧ (endJoinEarly s).assessor = s.assessor
    ∧ (endJoinEarly s).line.attempt = s.line.attempt
    ∧ (endJoinEarly s).line.duplicateMark = s.line.duplicateMark
    ∧ (endJoinEarly s).line.failures = s.line.failures
    ∧ (endJoinEarly s).line.receiver = s.line.receiver
    ∧ (endJoinEarly s).line.joinSlotDone = s.line.joinSlotDone
    ∧ (endJoinEarly s).line.joinTicks = s.line.joinTicks ∧ (endJoinEarly s).line.mode = s.line.mode
    ∧ (endJoinEarly s).line.queue = s.line.queue ∧ (endJoinEarly s).view = s.view
    ∧ (endJoinEarly s).admission = s.admission ∧ (endJoinEarly s).permits = s.permits
    ∧ (endJoinEarly s).port = s.port := by
  unfold endJoinEarly; dsimp only; (repeat' split) <;> simp

@[simp] theorem lineFault_frame (s : State) :
    (lineFault s).pending = s.pending ∧ (lineFault s).power = s.power
    ∧ (lineFault s).settings = s.settings ∧ (lineFault s).freeIndex = s.freeIndex
    ∧ (lineFault s).exchange = s.exchange ∧ (lineFault s).supply = s.supply
    ∧ (lineFault s).gauge = s.gauge ∧ (lineFault s).journal = s.journal
    ∧ (lineFault s).context = s.context ∧ (lineFault s).assessor = s.assessor
    ∧ (lineFault s).view = s.view ∧ (lineFault s).line.duplicateMark = s.line.duplicateMark
    ∧ (lineFault s).line.joinTicks = s.line.joinTicks
    ∧ (lineFault s).line.joinSlotDone = s.line.joinSlotDone
    ∧ (lineFault s).line.receiver = s.line.receiver
    ∧ (lineFault s).permits.doorOpen = s.permits.doorOpen
    ∧ (lineFault s).permits.doorCount = s.permits.doorCount
    ∧ (lineFault s).permits.doorRaw = s.permits.doorRaw
    ∧ (lineFault s).permits.doorInput = s.permits.doorInput ∧ (lineFault s).port.requests = s.port.requests
    ∧ (lineFault s).port.inService = s.port.inService
    ∧ (lineFault s).port.progressRejected = s.port.progressRejected
    ∧ (lineFault s).port.sdo = s.port.sdo := by
  simp [lineFault]

@[simp] theorem beginJoin_frame (s : State) :
    (beginJoin s).pending = s.pending ∧ (beginJoin s).power = s.power
    ∧ (beginJoin s).settings = s.settings ∧ (beginJoin s).freeIndex = s.freeIndex
    ∧ (beginJoin s).exchange = s.exchange ∧ (beginJoin s).supply = s.supply
    ∧ (beginJoin s).gauge = s.gauge ∧ (beginJoin s).journal = s.journal
    ∧ (beginJoin s).context = s.context ∧ (beginJoin s).assessor = s.assessor
    ∧ (beginJoin s).line.duplicateMark = s.line.duplicateMark ∧ (beginJoin s).admission = s.admission
    ∧ (beginJoin s).permits = s.permits ∧ (beginJoin s).port = s.port := by
  simp [beginJoin]

@[simp] theorem tellSent_frame (f : QueuedFrame) (s : State) :
    (tellSent f s).pending = s.pending ∧ (tellSent f s).power = s.power
    ∧ (tellSent f s).settings = s.settings ∧ (tellSent f s).freeIndex = s.freeIndex
    ∧ (tellSent f s).exchange = s.exchange ∧ (tellSent f s).supply = s.supply
    ∧ (tellSent f s).gauge = s.gauge ∧ (tellSent f s).journal = s.journal
    ∧ (tellSent f s).context = s.context ∧ (tellSent f s).assessor = s.assessor
    ∧ (tellSent f s).line = s.line ∧ (tellSent f s).view = s.view
    ∧ (tellSent f s).admission.ductEpisode = s.admission.ductEpisode
    ∧ (tellSent f s).admission.held = s.admission.held
    ∧ (tellSent f s).admission.pending = s.admission.pending
    ∧ (tellSent f s).admission.ramp = s.admission.ramp
    ∧ (tellSent f s).admission.shedSettle = s.admission.shedSettle
    ∧ (tellSent f s).admission.spacing = s.admission.spacing
    ∧ (tellSent f s).admission.testAtTick = s.admission.testAtTick
    ∧ (tellSent f s).admission.waiters = s.admission.waiters ∧ (tellSent f s).permits = s.permits
    ∧ (tellSent f s).port = s.port := by
  unfold tellSent; (repeat' split) <;> simp

@[simp] theorem dropHead_frame (s : State) :
    (dropHead s).pending = s.pending ∧ (dropHead s).power = s.power ∧ (dropHead s).settings = s.settings
    ∧ (dropHead s).freeIndex = s.freeIndex ∧ (dropHead s).exchange = s.exchange
    ∧ (dropHead s).supply = s.supply ∧ (dropHead s).gauge = s.gauge ∧ (dropHead s).journal = s.journal
    ∧ (dropHead s).context = s.context ∧ (dropHead s).assessor = s.assessor
    ∧ (dropHead s).line.attempt = s.line.attempt
    ∧ (dropHead s).line.duplicateMark = s.line.duplicateMark
    ∧ (dropHead s).line.receiver = s.line.receiver
    ∧ (dropHead s).line.joinRunning = s.line.joinRunning
    ∧ (dropHead s).line.joinSlotDone = s.line.joinSlotDone
    ∧ (dropHead s).line.joinTicks = s.line.joinTicks ∧ (dropHead s).line.mode = s.line.mode
    ∧ (dropHead s).line.presenceRunning = s.line.presenceRunning
    ∧ (dropHead s).line.presenceTicks = s.line.presenceTicks ∧ (dropHead s).view = s.view
    ∧ (dropHead s).admission = s.admission ∧ (dropHead s).permits = s.permits
    ∧ (dropHead s).port = s.port := by
  simp [dropHead]

@[simp] theorem countAsSent_frame (f : QueuedFrame) (s : State) :
    (countAsSent f s).pending = s.pending ∧ (countAsSent f s).power = s.power
    ∧ (countAsSent f s).settings = s.settings ∧ (countAsSent f s).freeIndex = s.freeIndex
    ∧ (countAsSent f s).exchange = s.exchange ∧ (countAsSent f s).supply = s.supply
    ∧ (countAsSent f s).gauge = s.gauge ∧ (countAsSent f s).journal = s.journal
    ∧ (countAsSent f s).context = s.context ∧ (countAsSent f s).assessor = s.assessor
    ∧ (countAsSent f s).line.attempt = s.line.attempt
    ∧ (countAsSent f s).line.duplicateMark = s.line.duplicateMark
    ∧ (countAsSent f s).line.receiver = s.line.receiver
    ∧ (countAsSent f s).line.joinRunning = s.line.joinRunning
    ∧ (countAsSent f s).line.joinSlotDone = s.line.joinSlotDone
    ∧ (countAsSent f s).line.joinTicks = s.line.joinTicks ∧ (countAsSent f s).line.mode = s.line.mode
    ∧ (countAsSent f s).view = s.view
    ∧ (countAsSent f s).admission.ductEpisode = s.admission.ductEpisode
    ∧ (countAsSent f s).admission.held = s.admission.held
    ∧ (countAsSent f s).admission.pending = s.admission.pending
    ∧ (countAsSent f s).admission.ramp = s.admission.ramp
    ∧ (countAsSent f s).admission.shedSettle = s.admission.shedSettle
    ∧ (countAsSent f s).admission.spacing = s.admission.spacing
    ∧ (countAsSent f s).admission.testAtTick = s.admission.testAtTick
    ∧ (countAsSent f s).admission.waiters = s.admission.waiters ∧ (countAsSent f s).permits = s.permits
    ∧ (countAsSent f s).port = s.port := by
  simp [countAsSent]

@[simp] theorem failHead_frame (f : QueuedFrame) (s : State) :
    (failHead f s).pending = s.pending ∧ (failHead f s).power = s.power
    ∧ (failHead f s).settings = s.settings ∧ (failHead f s).freeIndex = s.freeIndex
    ∧ (failHead f s).exchange = s.exchange ∧ (failHead f s).supply = s.supply
    ∧ (failHead f s).gauge = s.gauge ∧ (failHead f s).journal = s.journal
    ∧ (failHead f s).context = s.context ∧ (failHead f s).assessor = s.assessor
    ∧ (failHead f s).view = s.view ∧ (failHead f s).line.duplicateMark = s.line.duplicateMark
    ∧ (failHead f s).line.joinTicks = s.line.joinTicks
    ∧ (failHead f s).line.joinSlotDone = s.line.joinSlotDone
    ∧ (failHead f s).line.receiver = s.line.receiver
    ∧ (failHead f s).permits.doorOpen = s.permits.doorOpen
    ∧ (failHead f s).permits.doorCount = s.permits.doorCount
    ∧ (failHead f s).permits.doorRaw = s.permits.doorRaw
    ∧ (failHead f s).permits.doorInput = s.permits.doorInput
    ∧ (failHead f s).port.requests = s.port.requests ∧ (failHead f s).port.inService = s.port.inService
    ∧ (failHead f s).port.progressRejected = s.port.progressRejected
    ∧ (failHead f s).port.sdo = s.port.sdo := by
  unfold failHead; (repeat' split) <;> simp

@[simp] theorem resumeTestAtTick_frame (s : State) :
    (resumeTestAtTick s).pending = s.pending ∧ (resumeTestAtTick s).power = s.power
    ∧ (resumeTestAtTick s).settings = s.settings ∧ (resumeTestAtTick s).freeIndex = s.freeIndex
    ∧ (resumeTestAtTick s).exchange = s.exchange ∧ (resumeTestAtTick s).supply = s.supply
    ∧ (resumeTestAtTick s).gauge = s.gauge ∧ (resumeTestAtTick s).journal = s.journal
    ∧ (resumeTestAtTick s).context = s.context ∧ (resumeTestAtTick s).assessor = s.assessor
    ∧ (resumeTestAtTick s).line = s.line ∧ (resumeTestAtTick s).view = s.view
    ∧ (resumeTestAtTick s).admission.claim = s.admission.claim
    ∧ (resumeTestAtTick s).admission.ductEpisode = s.admission.ductEpisode
    ∧ (resumeTestAtTick s).admission.held = s.admission.held
    ∧ (resumeTestAtTick s).admission.pending = s.admission.pending
    ∧ (resumeTestAtTick s).admission.ramp = s.admission.ramp
    ∧ (resumeTestAtTick s).admission.shedSettle = s.admission.shedSettle
    ∧ (resumeTestAtTick s).admission.spacing = s.admission.spacing
    ∧ (resumeTestAtTick s).admission.waiters = s.admission.waiters
    ∧ (resumeTestAtTick s).permits = s.permits ∧ (resumeTestAtTick s).port = s.port := by
  simp [resumeTestAtTick]

@[simp] theorem dropWithdrawnClaim_frame (s : State) :
    (dropWithdrawnClaim s).pending = s.pending ∧ (dropWithdrawnClaim s).power = s.power
    ∧ (dropWithdrawnClaim s).settings = s.settings ∧ (dropWithdrawnClaim s).freeIndex = s.freeIndex
    ∧ (dropWithdrawnClaim s).exchange = s.exchange ∧ (dropWithdrawnClaim s).supply = s.supply
    ∧ (dropWithdrawnClaim s).gauge = s.gauge ∧ (dropWithdrawnClaim s).journal = s.journal
    ∧ (dropWithdrawnClaim s).context = s.context ∧ (dropWithdrawnClaim s).assessor = s.assessor
    ∧ (dropWithdrawnClaim s).line.attempt = s.line.attempt
    ∧ (dropWithdrawnClaim s).line.duplicateMark = s.line.duplicateMark
    ∧ (dropWithdrawnClaim s).line.receiver = s.line.receiver
    ∧ (dropWithdrawnClaim s).line.joinRunning = s.line.joinRunning
    ∧ (dropWithdrawnClaim s).line.joinSlotDone = s.line.joinSlotDone
    ∧ (dropWithdrawnClaim s).line.joinTicks = s.line.joinTicks
    ∧ (dropWithdrawnClaim s).line.mode = s.line.mode
    ∧ (dropWithdrawnClaim s).line.presenceRunning = s.line.presenceRunning
    ∧ (dropWithdrawnClaim s).line.presenceTicks = s.line.presenceTicks
    ∧ (dropWithdrawnClaim s).view = s.view ∧ (dropWithdrawnClaim s).admission.claim = s.admission.claim
    ∧ (dropWithdrawnClaim s).admission.ductEpisode = s.admission.ductEpisode
    ∧ (dropWithdrawnClaim s).admission.held = s.admission.held
    ∧ (dropWithdrawnClaim s).admission.pending = s.admission.pending
    ∧ (dropWithdrawnClaim s).admission.ramp = s.admission.ramp
    ∧ (dropWithdrawnClaim s).admission.shedSettle = s.admission.shedSettle
    ∧ (dropWithdrawnClaim s).admission.spacing = s.admission.spacing
    ∧ (dropWithdrawnClaim s).admission.waiters = s.admission.waiters
    ∧ (dropWithdrawnClaim s).permits = s.permits ∧ (dropWithdrawnClaim s).port = s.port := by
  simp [dropWithdrawnClaim]

@[simp] theorem entryCreated_frame (s : State) :
    (entryCreated s).pending = s.pending ∧ (entryCreated s).power = s.power
    ∧ (entryCreated s).settings = s.settings ∧ (entryCreated s).freeIndex = s.freeIndex
    ∧ (entryCreated s).exchange = s.exchange ∧ (entryCreated s).supply = s.supply
    ∧ (entryCreated s).gauge = s.gauge ∧ (entryCreated s).journal = s.journal
    ∧ (entryCreated s).context = s.context ∧ (entryCreated s).assessor = s.assessor
    ∧ (entryCreated s).view = s.view ∧ (entryCreated s).line.duplicateMark = s.line.duplicateMark
    ∧ (entryCreated s).line.presenceRunning = s.line.presenceRunning
    ∧ (entryCreated s).line.presenceTicks = s.line.presenceTicks
    ∧ (entryCreated s).line.joinRunning = s.line.joinRunning
    ∧ (entryCreated s).line.joinTicks = s.line.joinTicks
    ∧ (entryCreated s).line.joinSlotDone = s.line.joinSlotDone
    ∧ (entryCreated s).line.receiver = s.line.receiver
    ∧ (entryCreated s).permits.doorOpen = s.permits.doorOpen
    ∧ (entryCreated s).permits.doorCount = s.permits.doorCount
    ∧ (entryCreated s).permits.doorRaw = s.permits.doorRaw
    ∧ (entryCreated s).permits.doorInput = s.permits.doorInput
    ∧ (entryCreated s).port.requests = s.port.requests
    ∧ (entryCreated s).port.inService = s.port.inService
    ∧ (entryCreated s).port.progressRejected = s.port.progressRejected
    ∧ (entryCreated s).port.sdo = s.port.sdo := by
  unfold entryCreated; split <;> simp

@[simp] theorem lastEntryRemoved_frame (s : State) :
    (lastEntryRemoved s).pending = s.pending ∧ (lastEntryRemoved s).power = s.power
    ∧ (lastEntryRemoved s).settings = s.settings ∧ (lastEntryRemoved s).freeIndex = s.freeIndex
    ∧ (lastEntryRemoved s).exchange = s.exchange ∧ (lastEntryRemoved s).supply = s.supply
    ∧ (lastEntryRemoved s).gauge = s.gauge ∧ (lastEntryRemoved s).journal = s.journal
    ∧ (lastEntryRemoved s).context = s.context ∧ (lastEntryRemoved s).assessor = s.assessor
    ∧ (lastEntryRemoved s).view = s.view
    ∧ (lastEntryRemoved s).line.duplicateMark = s.line.duplicateMark
    ∧ (lastEntryRemoved s).line.presenceRunning = s.line.presenceRunning
    ∧ (lastEntryRemoved s).line.presenceTicks = s.line.presenceTicks
    ∧ (lastEntryRemoved s).line.joinRunning = s.line.joinRunning
    ∧ (lastEntryRemoved s).line.joinTicks = s.line.joinTicks
    ∧ (lastEntryRemoved s).line.joinSlotDone = s.line.joinSlotDone
    ∧ (lastEntryRemoved s).line.receiver = s.line.receiver
    ∧ (lastEntryRemoved s).permits.doorOpen = s.permits.doorOpen
    ∧ (lastEntryRemoved s).permits.doorCount = s.permits.doorCount
    ∧ (lastEntryRemoved s).permits.doorRaw = s.permits.doorRaw
    ∧ (lastEntryRemoved s).permits.doorInput = s.permits.doorInput
    ∧ (lastEntryRemoved s).port.requests = s.port.requests
    ∧ (lastEntryRemoved s).port.inService = s.port.inService
    ∧ (lastEntryRemoved s).port.progressRejected = s.port.progressRejected
    ∧ (lastEntryRemoved s).port.sdo = s.port.sdo := by
  unfold lastEntryRemoved; split <;> simp

@[simp] theorem hearPeer_frame (f : Frame) (s : State) :
    (hearPeer f s).pending = s.pending ∧ (hearPeer f s).power = s.power
    ∧ (hearPeer f s).settings = s.settings ∧ (hearPeer f s).freeIndex = s.freeIndex
    ∧ (hearPeer f s).exchange = s.exchange ∧ (hearPeer f s).supply = s.supply
    ∧ (hearPeer f s).gauge = s.gauge ∧ (hearPeer f s).journal = s.journal
    ∧ (hearPeer f s).context = s.context ∧ (hearPeer f s).assessor = s.assessor
    ∧ (hearPeer f s).line.duplicateMark = s.line.duplicateMark
    ∧ (hearPeer f s).line.presenceRunning = s.line.presenceRunning
    ∧ (hearPeer f s).line.presenceTicks = s.line.presenceTicks
    ∧ (hearPeer f s).line.joinRunning = s.line.joinRunning
    ∧ (hearPeer f s).line.joinTicks = s.line.joinTicks
    ∧ (hearPeer f s).line.joinSlotDone = s.line.joinSlotDone
    ∧ (hearPeer f s).line.receiver = s.line.receiver
    ∧ (hearPeer f s).permits.doorOpen = s.permits.doorOpen
    ∧ (hearPeer f s).permits.doorCount = s.permits.doorCount
    ∧ (hearPeer f s).permits.doorRaw = s.permits.doorRaw
    ∧ (hearPeer f s).permits.doorInput = s.permits.doorInput
    ∧ (hearPeer f s).port.requests = s.port.requests ∧ (hearPeer f s).port.inService = s.port.inService
    ∧ (hearPeer f s).port.progressRejected = s.port.progressRejected
    ∧ (hearPeer f s).port.sdo = s.port.sdo := by
  unfold hearPeer; dsimp only; (repeat' split) <;> simp

@[simp] theorem hearDuplicate_frame (s : State) :
    (hearDuplicate s).pending = s.pending ∧ (hearDuplicate s).power = s.power
    ∧ (hearDuplicate s).settings = s.settings ∧ (hearDuplicate s).freeIndex = s.freeIndex
    ∧ (hearDuplicate s).exchange = s.exchange ∧ (hearDuplicate s).supply = s.supply
    ∧ (hearDuplicate s).gauge = s.gauge ∧ (hearDuplicate s).journal = s.journal
    ∧ (hearDuplicate s).context = s.context ∧ (hearDuplicate s).assessor = s.assessor
    ∧ (hearDuplicate s).view = s.view ∧ (hearDuplicate s).line.joinTicks = s.line.joinTicks
    ∧ (hearDuplicate s).line.joinSlotDone = s.line.joinSlotDone
    ∧ (hearDuplicate s).line.receiver = s.line.receiver
    ∧ (hearDuplicate s).permits.doorOpen = s.permits.doorOpen
    ∧ (hearDuplicate s).permits.doorCount = s.permits.doorCount
    ∧ (hearDuplicate s).permits.doorRaw = s.permits.doorRaw
    ∧ (hearDuplicate s).permits.doorInput = s.permits.doorInput
    ∧ (hearDuplicate s).port.requests = s.port.requests
    ∧ (hearDuplicate s).port.inService = s.port.inService
    ∧ (hearDuplicate s).port.progressRejected = s.port.progressRejected
    ∧ (hearDuplicate s).port.sdo = s.port.sdo := by
  unfold hearDuplicate; split <;> simp

end Sys2Proof.Machine
end

