-- ==== Sys2Proof/Laws/FramesSupply.lean ====
section
/-! SUPPORT. The frames of the gauge's and the Supply Monitor's operations: the fields each leaves as
they are. -/

namespace Sys2Proof.Machine

@[simp] theorem abandon_frame (g : Gauge) :
    g.abandon.gaugeState = g.gaugeState ∧ g.abandon.n0 = g.n0
    ∧ g.abandon.releasedFromArmed = g.releasedFromArmed ∧ g.abandon.previous = g.previous
    ∧ g.abandon.chargingTime = g.chargingTime ∧ g.abandon.startup = g.startup
    ∧ g.abandon.logRatio = g.logRatio ∧ g.abandon.journalN0 = g.journalN0 := by
  unfold Gauge.abandon; split <;> simp

@[simp] theorem abandon_converting (g : Gauge) : g.abandon.converting = false := by
  unfold Gauge.abandon; split <;> simp_all

@[simp] theorem gaugeFault_frame (cause : GaugeCause) (s : State) :
    (gaugeFault cause s).pending = s.pending ∧ (gaugeFault cause s).power = s.power
    ∧ (gaugeFault cause s).settings = s.settings ∧ (gaugeFault cause s).freeIndex = s.freeIndex
    ∧ (gaugeFault cause s).exchange = s.exchange ∧ (gaugeFault cause s).supply = s.supply
    ∧ (gaugeFault cause s).gauge.chargingTicks = s.gauge.chargingTicks
    ∧ (gaugeFault cause s).gauge.chargingTime = s.gauge.chargingTime
    ∧ (gaugeFault cause s).gauge.journalN0 = s.gauge.journalN0
    ∧ (gaugeFault cause s).gauge.logRatio = s.gauge.logRatio
    ∧ (gaugeFault cause s).gauge.n0 = s.gauge.n0
    ∧ (gaugeFault cause s).gauge.previous = s.gauge.previous
    ∧ (gaugeFault cause s).gauge.refreshTicks = s.gauge.refreshTicks
    ∧ (gaugeFault cause s).gauge.releasedFromArmed = s.gauge.releasedFromArmed
    ∧ (gaugeFault cause s).gauge.startup = s.gauge.startup ∧ (gaugeFault cause s).journal = s.journal
    ∧ (gaugeFault cause s).context = s.context ∧ (gaugeFault cause s).assessor = s.assessor
    ∧ (gaugeFault cause s).line = s.line ∧ (gaugeFault cause s).view = s.view
    ∧ (gaugeFault cause s).admission = s.admission ∧ (gaugeFault cause s).permits = s.permits
    ∧ (gaugeFault cause s).port.inService = s.port.inService
    ∧ (gaugeFault cause s).port.progressRejected = s.port.progressRejected
    ∧ (gaugeFault cause s).port.requests = s.port.requests ∧ (gaugeFault cause s).port.sdo = s.port.sdo := by
  simp [gaugeFault]

@[simp] theorem enterDormant_frame (s : State) :
    (enterDormant s).pending = s.pending ∧ (enterDormant s).power = s.power
    ∧ (enterDormant s).settings = s.settings ∧ (enterDormant s).freeIndex = s.freeIndex
    ∧ (enterDormant s).exchange = s.exchange ∧ (enterDormant s).supply.absence = s.supply.absence
    ∧ (enterDormant s).supply.carried = s.supply.carried
    ∧ (enterDormant s).supply.cause = s.supply.cause
    ∧ (enterDormant s).supply.lossReading = s.supply.lossReading
    ∧ (enterDormant s).supply.lossRunning = s.supply.lossRunning
    ∧ (enterDormant s).supply.lossTicks = s.supply.lossTicks
    ∧ (enterDormant s).supply.pulseSeen = s.supply.pulseSeen
    ∧ (enterDormant s).supply.vhold = s.supply.vhold ∧ (enterDormant s).gauge = s.gauge
    ∧ (enterDormant s).journal = s.journal ∧ (enterDormant s).context = s.context
    ∧ (enterDormant s).assessor = s.assessor
    ∧ (enterDormant s).line.duplicateMark = s.line.duplicateMark
    ∧ (enterDormant s).line.receiver = s.line.receiver
    ∧ (enterDormant s).line.joinRunning = s.line.joinRunning
    ∧ (enterDormant s).line.joinSlotDone = s.line.joinSlotDone
    ∧ (enterDormant s).line.joinTicks = s.line.joinTicks ∧ (enterDormant s).line.mode = s.line.mode
    ∧ (enterDormant s).line.presenceRunning = s.line.presenceRunning
    ∧ (enterDormant s).line.presenceTicks = s.line.presenceTicks ∧ (enterDormant s).view = s.view
    ∧ (enterDormant s).admission = s.admission ∧ (enterDormant s).permits = s.permits
    ∧ (enterDormant s).port = s.port := by
  simp [enterDormant]

@[simp] theorem enterHolding_frame (s : State) :
    (enterHolding s).pending = s.pending ∧ (enterHolding s).power = s.power
    ∧ (enterHolding s).settings = s.settings ∧ (enterHolding s).freeIndex = s.freeIndex
    ∧ (enterHolding s).exchange = s.exchange ∧ (enterHolding s).supply.absence = s.supply.absence
    ∧ (enterHolding s).supply.carried = s.supply.carried
    ∧ (enterHolding s).supply.cause = s.supply.cause
    ∧ (enterHolding s).supply.lossReading = s.supply.lossReading
    ∧ (enterHolding s).supply.lossRunning = s.supply.lossRunning
    ∧ (enterHolding s).supply.lossTicks = s.supply.lossTicks
    ∧ (enterHolding s).supply.pulseSeen = s.supply.pulseSeen
    ∧ (enterHolding s).supply.vhold = s.supply.vhold ∧ (enterHolding s).gauge = s.gauge
    ∧ (enterHolding s).journal = s.journal ∧ (enterHolding s).context = s.context
    ∧ (enterHolding s).assessor = s.assessor
    ∧ (enterHolding s).line.duplicateMark = s.line.duplicateMark
    ∧ (enterHolding s).line.receiver = s.line.receiver
    ∧ (enterHolding s).line.joinRunning = s.line.joinRunning
    ∧ (enterHolding s).line.joinSlotDone = s.line.joinSlotDone
    ∧ (enterHolding s).line.joinTicks = s.line.joinTicks ∧ (enterHolding s).line.mode = s.line.mode
    ∧ (enterHolding s).line.presenceRunning = s.line.presenceRunning
    ∧ (enterHolding s).line.presenceTicks = s.line.presenceTicks ∧ (enterHolding s).view = s.view
    ∧ (enterHolding s).admission = s.admission ∧ (enterHolding s).permits = s.permits
    ∧ (enterHolding s).port = s.port := by
  unfold enterHolding; split <;> simp

@[simp] theorem enterReturning_frame (s : State) :
    (enterReturning s).pending = s.pending ∧ (enterReturning s).power = s.power
    ∧ (enterReturning s).settings = s.settings ∧ (enterReturning s).freeIndex = s.freeIndex
    ∧ (enterReturning s).exchange = s.exchange ∧ (enterReturning s).supply.absence = s.supply.absence
    ∧ (enterReturning s).supply.carried = s.supply.carried
    ∧ (enterReturning s).supply.cause = s.supply.cause
    ∧ (enterReturning s).supply.lossReading = s.supply.lossReading
    ∧ (enterReturning s).supply.lossRunning = s.supply.lossRunning
    ∧ (enterReturning s).supply.lossTicks = s.supply.lossTicks
    ∧ (enterReturning s).supply.pulseSeen = s.supply.pulseSeen
    ∧ (enterReturning s).supply.vhold = s.supply.vhold ∧ (enterReturning s).gauge = s.gauge
    ∧ (enterReturning s).journal.intervalRunning = s.journal.intervalRunning
    ∧ (enterReturning s).journal.intervalTicks = s.journal.intervalTicks
    ∧ (enterReturning s).journal.slots = s.journal.slots ∧ (enterReturning s).context = s.context
    ∧ (enterReturning s).assessor = s.assessor ∧ (enterReturning s).line = s.line
    ∧ (enterReturning s).view = s.view ∧ (enterReturning s).admission = s.admission
    ∧ (enterReturning s).permits = s.permits ∧ (enterReturning s).port = s.port := by
  simp [enterReturning]

@[simp] theorem lossAdmission_frame (s : State) :
    (lossAdmission s).pending = s.pending ∧ (lossAdmission s).power = s.power
    ∧ (lossAdmission s).settings = s.settings ∧ (lossAdmission s).freeIndex = s.freeIndex
    ∧ (lossAdmission s).exchange = s.exchange ∧ (lossAdmission s).supply = s.supply
    ∧ (lossAdmission s).gauge = s.gauge ∧ (lossAdmission s).journal = s.journal
    ∧ (lossAdmission s).context = s.context ∧ (lossAdmission s).assessor = s.assessor
    ∧ (lossAdmission s).line = s.line ∧ (lossAdmission s).view = s.view
    ∧ (lossAdmission s).permits = s.permits ∧ (lossAdmission s).port.inService = s.port.inService
    ∧ (lossAdmission s).port.progressRejected = s.port.progressRejected
    ∧ (lossAdmission s).port.requests = s.port.requests ∧ (lossAdmission s).port.sdo = s.port.sdo := by
  unfold lossAdmission; split <;> simp

@[simp] theorem lossContext_frame (s : State) :
    (lossContext s).pending = s.pending ∧ (lossContext s).power = s.power
    ∧ (lossContext s).settings = s.settings ∧ (lossContext s).freeIndex = s.freeIndex
    ∧ (lossContext s).exchange = s.exchange ∧ (lossContext s).supply = s.supply
    ∧ (lossContext s).gauge = s.gauge ∧ (lossContext s).journal = s.journal
    ∧ (lossContext s).context.aged = s.context.aged ∧ (lossContext s).context.base = s.context.base
    ∧ (lossContext s).context.doorSeen = s.context.doorSeen
    ∧ (lossContext s).context.freshTicks = s.context.freshTicks
    ∧ (lossContext s).context.progress = s.context.progress
    ∧ (lossContext s).context.stale = s.context.stale ∧ (lossContext s).context.still = s.context.still
    ∧ (lossContext s).context.stopReason = s.context.stopReason
    ∧ (lossContext s).assessor.estimateMark = s.assessor.estimateMark
    ∧ (lossContext s).assessor.gaugeOff = s.assessor.gaugeOff ∧ (lossContext s).line = s.line
    ∧ (lossContext s).view = s.view ∧ (lossContext s).admission = s.admission
    ∧ (lossContext s).permits = s.permits ∧ (lossContext s).port = s.port := by
  simp [lossContext]

@[simp] theorem lossRecord_frame (s : State) :
    (lossRecord s).pending = s.pending ∧ (lossRecord s).power = s.power
    ∧ (lossRecord s).settings = s.settings ∧ (lossRecord s).freeIndex = s.freeIndex
    ∧ (lossRecord s).supply = s.supply ∧ (lossRecord s).gauge = s.gauge
    ∧ (lossRecord s).journal.intervalRunning = s.journal.intervalRunning
    ∧ (lossRecord s).journal.intervalTicks = s.journal.intervalTicks
    ∧ (lossRecord s).journal.slots = s.journal.slots ∧ (lossRecord s).context.aged = s.context.aged
    ∧ (lossRecord s).context.base = s.context.base
    ∧ (lossRecord s).context.doorSeen = s.context.doorSeen
    ∧ (lossRecord s).context.freshTicks = s.context.freshTicks
    ∧ (lossRecord s).context.progress = s.context.progress
    ∧ (lossRecord s).context.stale = s.context.stale ∧ (lossRecord s).context.still = s.context.still
    ∧ (lossRecord s).context.stopReason = s.context.stopReason
    ∧ (lossRecord s).assessor.estimateMark = s.assessor.estimateMark
    ∧ (lossRecord s).assessor.gaugeOff = s.assessor.gaugeOff ∧ (lossRecord s).line = s.line
    ∧ (lossRecord s).view = s.view ∧ (lossRecord s).admission = s.admission
    ∧ (lossRecord s).permits = s.permits ∧ (lossRecord s).port = s.port := by
  unfold lossRecord; split <;> simp

@[simp] theorem vacateLine_frame (released : Nat) (s : State) :
    (vacateLine released s).pending = s.pending ∧ (vacateLine released s).power = s.power
    ∧ (vacateLine released s).settings = s.settings ∧ (vacateLine released s).freeIndex = s.freeIndex
    ∧ (vacateLine released s).exchange = s.exchange ∧ (vacateLine released s).supply = s.supply
    ∧ (vacateLine released s).gauge = s.gauge ∧ (vacateLine released s).journal = s.journal
    ∧ (vacateLine released s).context = s.context ∧ (vacateLine released s).assessor = s.assessor
    ∧ (vacateLine released s).line.duplicateMark = s.line.duplicateMark
    ∧ (vacateLine released s).admission = s.admission ∧ (vacateLine released s).permits = s.permits
    ∧ (vacateLine released s).port = s.port := by
  simp [vacateLine]

@[simp] theorem refuseHeld_frame (s : State) :
    (refuseHeld s).pending = s.pending ∧ (refuseHeld s).power = s.power
    ∧ (refuseHeld s).settings = s.settings ∧ (refuseHeld s).freeIndex = s.freeIndex
    ∧ (refuseHeld s).exchange = s.exchange ∧ (refuseHeld s).supply = s.supply
    ∧ (refuseHeld s).gauge = s.gauge ∧ (refuseHeld s).journal = s.journal
    ∧ (refuseHeld s).context = s.context ∧ (refuseHeld s).assessor = s.assessor
    ∧ (refuseHeld s).line = s.line ∧ (refuseHeld s).view = s.view
    ∧ (refuseHeld s).admission = s.admission ∧ (refuseHeld s).permits = s.permits
    ∧ (refuseHeld s).port.eventsLost = s.port.eventsLost
    ∧ (refuseHeld s).port.progressRejected = s.port.progressRejected
    ∧ (refuseHeld s).port.requests = s.port.requests ∧ (refuseHeld s).port.sdo = s.port.sdo := by
  simp [refuseHeld]

@[simp] theorem declareLoss_frame (s : State) :
    (declareLoss s).pending = s.pending ∧ (declareLoss s).power = s.power
    ∧ (declareLoss s).settings = s.settings ∧ (declareLoss s).freeIndex = s.freeIndex := by
  simp [declareLoss]

end Sys2Proof.Machine
end

