-- ==== Sys2Proof/Laws/FramesCommands.lean ====
section
/-! SUPPORT. The frames of the commands' own effects: the fields each leaves as they are. -/

namespace Sys2Proof.Machine

@[simp] theorem acceptCommit_frame (p : Progress) (s : State) :
    (acceptCommit p s).pending = s.pending ∧ (acceptCommit p s).power = s.power
    ∧ (acceptCommit p s).settings = s.settings ∧ (acceptCommit p s).freeIndex = s.freeIndex
    ∧ (acceptCommit p s).supply = s.supply ∧ (acceptCommit p s).gauge = s.gauge
    ∧ (acceptCommit p s).journal.intervalRunning = s.journal.intervalRunning
    ∧ (acceptCommit p s).journal.intervalTicks = s.journal.intervalTicks
    ∧ (acceptCommit p s).journal.slots = s.journal.slots
    ∧ (acceptCommit p s).context.base = s.context.base
    ∧ (acceptCommit p s).context.cycleState = s.context.cycleState
    ∧ (acceptCommit p s).context.doorSeen = s.context.doorSeen
    ∧ (acceptCommit p s).context.plan = s.context.plan
    ∧ (acceptCommit p s).context.still = s.context.still
    ∧ (acceptCommit p s).context.stillStarted = s.context.stillStarted
    ∧ (acceptCommit p s).context.stillTicks = s.context.stillTicks
    ∧ (acceptCommit p s).context.stopReason = s.context.stopReason
    ∧ (acceptCommit p s).assessor = s.assessor ∧ (acceptCommit p s).line = s.line
    ∧ (acceptCommit p s).view = s.view ∧ (acceptCommit p s).admission = s.admission
    ∧ (acceptCommit p s).permits = s.permits ∧ (acceptCommit p s).port = s.port := by
  unfold acceptCommit; split <;> simp

@[simp] theorem commitProgress_frame (mosi : List Byte) (s : State) :
    (commitProgress mosi s).pending = s.pending ∧ (commitProgress mosi s).power = s.power
    ∧ (commitProgress mosi s).settings = s.settings ∧ (commitProgress mosi s).freeIndex = s.freeIndex
    ∧ (commitProgress mosi s).supply = s.supply ∧ (commitProgress mosi s).gauge = s.gauge
    ∧ (commitProgress mosi s).journal.intervalRunning = s.journal.intervalRunning
    ∧ (commitProgress mosi s).journal.intervalTicks = s.journal.intervalTicks
    ∧ (commitProgress mosi s).journal.slots = s.journal.slots
    ∧ (commitProgress mosi s).context.base = s.context.base
    ∧ (commitProgress mosi s).context.cycleState = s.context.cycleState
    ∧ (commitProgress mosi s).context.doorSeen = s.context.doorSeen
    ∧ (commitProgress mosi s).context.plan = s.context.plan
    ∧ (commitProgress mosi s).context.still = s.context.still
    ∧ (commitProgress mosi s).context.stillStarted = s.context.stillStarted
    ∧ (commitProgress mosi s).context.stillTicks = s.context.stillTicks
    ∧ (commitProgress mosi s).context.stopReason = s.context.stopReason
    ∧ (commitProgress mosi s).assessor = s.assessor ∧ (commitProgress mosi s).line = s.line
    ∧ (commitProgress mosi s).view = s.view ∧ (commitProgress mosi s).admission = s.admission
    ∧ (commitProgress mosi s).permits = s.permits ∧ (commitProgress mosi s).port.events = s.port.events
    ∧ (commitProgress mosi s).port.eventsLost = s.port.eventsLost
    ∧ (commitProgress mosi s).port.inService = s.port.inService
    ∧ (commitProgress mosi s).port.requests = s.port.requests
    ∧ (commitProgress mosi s).port.sdo = s.port.sdo := by
  unfold commitProgress; (repeat' split) <;> simp

@[simp] theorem acceptConfigure_frame (raw : Settings) (s : State) :
    (acceptConfigure raw s).pending = s.pending ∧ (acceptConfigure raw s).power = s.power
    ∧ (acceptConfigure raw s).freeIndex = s.freeIndex
    ∧ (acceptConfigure raw s).supply.absence = s.supply.absence
    ∧ (acceptConfigure raw s).supply.cause = s.supply.cause
    ∧ (acceptConfigure raw s).supply.lossReading = s.supply.lossReading
    ∧ (acceptConfigure raw s).supply.lossRunning = s.supply.lossRunning
    ∧ (acceptConfigure raw s).supply.lossTicks = s.supply.lossTicks
    ∧ (acceptConfigure raw s).supply.pulseSeen = s.supply.pulseSeen
    ∧ (acceptConfigure raw s).supply.settle = s.supply.settle
    ∧ (acceptConfigure raw s).supply.settleOpen = s.supply.settleOpen
    ∧ (acceptConfigure raw s).supply.supplyState = s.supply.supplyState
    ∧ (acceptConfigure raw s).supply.vhold = s.supply.vhold ∧ (acceptConfigure raw s).gauge = s.gauge
    ∧ (acceptConfigure raw s).journal.slots = s.journal.slots
    ∧ (acceptConfigure raw s).context.freshTicks = s.context.freshTicks
    ∧ (acceptConfigure raw s).context.stillStarted = s.context.stillStarted
    ∧ (acceptConfigure raw s).line.duplicateMark = s.line.duplicateMark
    ∧ (acceptConfigure raw s).admission = s.admission ∧ (acceptConfigure raw s).permits = s.permits
    ∧ (acceptConfigure raw s).port.progressRejected = s.port.progressRejected
    ∧ (acceptConfigure raw s).port.requests = s.port.requests
    ∧ (acceptConfigure raw s).port.sdo = s.port.sdo := by
  unfold acceptConfigure; dsimp only; (repeat' split) <;> simp

@[simp] theorem decideConfigure_frame (r : Request) (s : State) :
    (decideConfigure r s).pending = s.pending ∧ (decideConfigure r s).power = s.power
    ∧ (decideConfigure r s).freeIndex = s.freeIndex
    ∧ (decideConfigure r s).supply.absence = s.supply.absence
    ∧ (decideConfigure r s).supply.cause = s.supply.cause
    ∧ (decideConfigure r s).supply.lossReading = s.supply.lossReading
    ∧ (decideConfigure r s).supply.lossRunning = s.supply.lossRunning
    ∧ (decideConfigure r s).supply.lossTicks = s.supply.lossTicks
    ∧ (decideConfigure r s).supply.pulseSeen = s.supply.pulseSeen
    ∧ (decideConfigure r s).supply.settle = s.supply.settle
    ∧ (decideConfigure r s).supply.settleOpen = s.supply.settleOpen
    ∧ (decideConfigure r s).supply.supplyState = s.supply.supplyState
    ∧ (decideConfigure r s).supply.vhold = s.supply.vhold ∧ (decideConfigure r s).gauge = s.gauge
    ∧ (decideConfigure r s).journal.slots = s.journal.slots
    ∧ (decideConfigure r s).context.freshTicks = s.context.freshTicks
    ∧ (decideConfigure r s).context.stillStarted = s.context.stillStarted
    ∧ (decideConfigure r s).line.duplicateMark = s.line.duplicateMark
    ∧ (decideConfigure r s).admission = s.admission ∧ (decideConfigure r s).permits = s.permits
    ∧ (decideConfigure r s).port.progressRejected = s.port.progressRejected
    ∧ (decideConfigure r s).port.requests = s.port.requests
    ∧ (decideConfigure r s).port.sdo = s.port.sdo := by
  unfold decideConfigure; dsimp only; (repeat' split) <;> simp

@[simp] theorem configureOwner_frame (r : Request) (s : State) :
    (configureOwner r s).pending = s.pending ∧ (configureOwner r s).power = s.power
    ∧ (configureOwner r s).freeIndex = s.freeIndex
    ∧ (configureOwner r s).supply.absence = s.supply.absence
    ∧ (configureOwner r s).supply.cause = s.supply.cause
    ∧ (configureOwner r s).supply.lossReading = s.supply.lossReading
    ∧ (configureOwner r s).supply.lossRunning = s.supply.lossRunning
    ∧ (configureOwner r s).supply.lossTicks = s.supply.lossTicks
    ∧ (configureOwner r s).supply.pulseSeen = s.supply.pulseSeen
    ∧ (configureOwner r s).supply.settle = s.supply.settle
    ∧ (configureOwner r s).supply.settleOpen = s.supply.settleOpen
    ∧ (configureOwner r s).supply.supplyState = s.supply.supplyState
    ∧ (configureOwner r s).supply.vhold = s.supply.vhold ∧ (configureOwner r s).gauge = s.gauge
    ∧ (configureOwner r s).journal.slots = s.journal.slots
    ∧ (configureOwner r s).context.freshTicks = s.context.freshTicks
    ∧ (configureOwner r s).context.stillStarted = s.context.stillStarted
    ∧ (configureOwner r s).line.duplicateMark = s.line.duplicateMark
    ∧ (configureOwner r s).admission = s.admission ∧ (configureOwner r s).permits = s.permits
    ∧ (configureOwner r s).port.progressRejected = s.port.progressRejected
    ∧ (configureOwner r s).port.requests = s.port.requests ∧ (configureOwner r s).port.sdo = s.port.sdo := by
  unfold configureOwner; split <;> simp

@[simp] theorem openCycleOwner_frame (r : Request) (s : State) :
    (openCycleOwner r s).pending = s.pending ∧ (openCycleOwner r s).power = s.power
    ∧ (openCycleOwner r s).settings = s.settings ∧ (openCycleOwner r s).freeIndex = s.freeIndex
    ∧ (openCycleOwner r s).supply = s.supply ∧ (openCycleOwner r s).gauge = s.gauge
    ∧ (openCycleOwner r s).journal.intervalRunning = s.journal.intervalRunning
    ∧ (openCycleOwner r s).journal.intervalTicks = s.journal.intervalTicks
    ∧ (openCycleOwner r s).journal.slots = s.journal.slots
    ∧ (openCycleOwner r s).assessor.awaiting = s.assessor.awaiting
    ∧ (openCycleOwner r s).assessor.gaugeOff = s.assessor.gaugeOff
    ∧ (openCycleOwner r s).assessor.stage = s.assessor.stage ∧ (openCycleOwner r s).line = s.line
    ∧ (openCycleOwner r s).view = s.view ∧ (openCycleOwner r s).admission = s.admission
    ∧ (openCycleOwner r s).permits = s.permits
    ∧ (openCycleOwner r s).port.eventsLost = s.port.eventsLost
    ∧ (openCycleOwner r s).port.progressRejected = s.port.progressRejected
    ∧ (openCycleOwner r s).port.requests = s.port.requests ∧ (openCycleOwner r s).port.sdo = s.port.sdo := by
  unfold openCycleOwner; (repeat' split) <;> simp

@[simp] theorem hostStopOwner_frame (r : Request) (s : State) :
    (hostStopOwner r s).pending = s.pending ∧ (hostStopOwner r s).power = s.power
    ∧ (hostStopOwner r s).settings = s.settings ∧ (hostStopOwner r s).freeIndex = s.freeIndex
    ∧ (hostStopOwner r s).supply = s.supply ∧ (hostStopOwner r s).gauge = s.gauge
    ∧ (hostStopOwner r s).journal.intervalRunning = s.journal.intervalRunning
    ∧ (hostStopOwner r s).journal.intervalTicks = s.journal.intervalTicks
    ∧ (hostStopOwner r s).journal.slots = s.journal.slots ∧ (hostStopOwner r s).assessor = s.assessor
    ∧ (hostStopOwner r s).view = s.view
    ∧ (hostStopOwner r s).admission.ductEpisode = s.admission.ductEpisode
    ∧ (hostStopOwner r s).admission.ramp = s.admission.ramp
    ∧ (hostStopOwner r s).admission.shedSettle = s.admission.shedSettle
    ∧ (hostStopOwner r s).admission.spacing = s.admission.spacing
    ∧ (hostStopOwner r s).permits.doorCount = s.permits.doorCount
    ∧ (hostStopOwner r s).permits.doorOpen = s.permits.doorOpen
    ∧ (hostStopOwner r s).permits.doorRaw = s.permits.doorRaw
    ∧ (hostStopOwner r s).permits.doorInput = s.permits.doorInput
    ∧ (hostStopOwner r s).port.eventsLost = s.port.eventsLost
    ∧ (hostStopOwner r s).port.progressRejected = s.port.progressRejected
    ∧ (hostStopOwner r s).port.requests = s.port.requests ∧ (hostStopOwner r s).port.sdo = s.port.sdo
    ∧ (hostStopOwner r s).line.mode = s.line.mode
    ∧ (hostStopOwner r s).line.duplicateMark = s.line.duplicateMark
    ∧ (hostStopOwner r s).line.presenceRunning = s.line.presenceRunning
    ∧ (hostStopOwner r s).line.presenceTicks = s.line.presenceTicks
    ∧ (hostStopOwner r s).line.joinRunning = s.line.joinRunning
    ∧ (hostStopOwner r s).line.joinTicks = s.line.joinTicks
    ∧ (hostStopOwner r s).line.joinSlotDone = s.line.joinSlotDone
    ∧ (hostStopOwner r s).line.receiver = s.line.receiver := by
  unfold hostStopOwner; split <;> simp

@[simp] theorem continueCycleOwner_frame (_r : Request) (s : State) :
    (continueCycleOwner _r s).pending = s.pending ∧ (continueCycleOwner _r s).power = s.power
    ∧ (continueCycleOwner _r s).settings = s.settings
    ∧ (continueCycleOwner _r s).freeIndex = s.freeIndex ∧ (continueCycleOwner _r s).supply = s.supply
    ∧ (continueCycleOwner _r s).gauge = s.gauge
    ∧ (continueCycleOwner _r s).journal.intervalRunning = s.journal.intervalRunning
    ∧ (continueCycleOwner _r s).journal.intervalTicks = s.journal.intervalTicks
    ∧ (continueCycleOwner _r s).journal.slots = s.journal.slots
    ∧ (continueCycleOwner _r s).context.aged = s.context.aged
    ∧ (continueCycleOwner _r s).context.base = s.context.base
    ∧ (continueCycleOwner _r s).context.progress = s.context.progress
    ∧ (continueCycleOwner _r s).context.stale = s.context.stale
    ∧ (continueCycleOwner _r s).context.stillStarted = s.context.stillStarted
    ∧ (continueCycleOwner _r s).assessor.gaugeOff = s.assessor.gaugeOff
    ∧ (continueCycleOwner _r s).line = s.line ∧ (continueCycleOwner _r s).view = s.view
    ∧ (continueCycleOwner _r s).admission = s.admission ∧ (continueCycleOwner _r s).permits = s.permits
    ∧ (continueCycleOwner _r s).port.eventsLost = s.port.eventsLost
    ∧ (continueCycleOwner _r s).port.progressRejected = s.port.progressRejected
    ∧ (continueCycleOwner _r s).port.requests = s.port.requests
    ∧ (continueCycleOwner _r s).port.sdo = s.port.sdo := by
  unfold continueCycleOwner; split <;> simp

@[simp] theorem closeCycleOwner_frame (r : Request) (s : State) :
    (closeCycleOwner r s).pending = s.pending ∧ (closeCycleOwner r s).power = s.power
    ∧ (closeCycleOwner r s).settings = s.settings ∧ (closeCycleOwner r s).freeIndex = s.freeIndex
    ∧ (closeCycleOwner r s).supply = s.supply ∧ (closeCycleOwner r s).gauge = s.gauge
    ∧ (closeCycleOwner r s).journal.intervalRunning = s.journal.intervalRunning
    ∧ (closeCycleOwner r s).journal.intervalTicks = s.journal.intervalTicks
    ∧ (closeCycleOwner r s).journal.slots = s.journal.slots
    ∧ (closeCycleOwner r s).context.freshTicks = s.context.freshTicks
    ∧ (closeCycleOwner r s).context.stillStarted = s.context.stillStarted
    ∧ (closeCycleOwner r s).assessor.gaugeOff = s.assessor.gaugeOff
    ∧ (closeCycleOwner r s).view = s.view
    ∧ (closeCycleOwner r s).admission.ductEpisode = s.admission.ductEpisode
    ∧ (closeCycleOwner r s).admission.ramp = s.admission.ramp
    ∧ (closeCycleOwner r s).admission.shedSettle = s.admission.shedSettle
    ∧ (closeCycleOwner r s).admission.spacing = s.admission.spacing
    ∧ (closeCycleOwner r s).permits.doorCount = s.permits.doorCount
    ∧ (closeCycleOwner r s).permits.doorOpen = s.permits.doorOpen
    ∧ (closeCycleOwner r s).permits.doorRaw = s.permits.doorRaw
    ∧ (closeCycleOwner r s).permits.doorInput = s.permits.doorInput
    ∧ (closeCycleOwner r s).port.eventsLost = s.port.eventsLost
    ∧ (closeCycleOwner r s).port.progressRejected = s.port.progressRejected
    ∧ (closeCycleOwner r s).port.requests = s.port.requests
    ∧ (closeCycleOwner r s).port.sdo = s.port.sdo ∧ (closeCycleOwner r s).line.mode = s.line.mode
    ∧ (closeCycleOwner r s).line.duplicateMark = s.line.duplicateMark
    ∧ (closeCycleOwner r s).line.presenceRunning = s.line.presenceRunning
    ∧ (closeCycleOwner r s).line.presenceTicks = s.line.presenceTicks
    ∧ (closeCycleOwner r s).line.joinRunning = s.line.joinRunning
    ∧ (closeCycleOwner r s).line.joinTicks = s.line.joinTicks
    ∧ (closeCycleOwner r s).line.joinSlotDone = s.line.joinSlotDone
    ∧ (closeCycleOwner r s).line.receiver = s.line.receiver := by
  unfold closeCycleOwner; split <;> simp

@[simp] theorem acceptPlan_frame (plan : Plan) (s : State) :
    (acceptPlan plan s).pending = s.pending ∧ (acceptPlan plan s).power = s.power
    ∧ (acceptPlan plan s).settings = s.settings ∧ (acceptPlan plan s).freeIndex = s.freeIndex
    ∧ (acceptPlan plan s).supply = s.supply ∧ (acceptPlan plan s).gauge = s.gauge
    ∧ (acceptPlan plan s).journal.intervalRunning = s.journal.intervalRunning
    ∧ (acceptPlan plan s).journal.intervalTicks = s.journal.intervalTicks
    ∧ (acceptPlan plan s).journal.slots = s.journal.slots
    ∧ (acceptPlan plan s).context.freshTicks = s.context.freshTicks
    ∧ (acceptPlan plan s).context.stillStarted = s.context.stillStarted
    ∧ (acceptPlan plan s).assessor.gaugeOff = s.assessor.gaugeOff ∧ (acceptPlan plan s).view = s.view
    ∧ (acceptPlan plan s).admission.ductEpisode = s.admission.ductEpisode
    ∧ (acceptPlan plan s).admission.held = s.admission.held
    ∧ (acceptPlan plan s).admission.ramp = s.admission.ramp
    ∧ (acceptPlan plan s).admission.shedSettle = s.admission.shedSettle
    ∧ (acceptPlan plan s).admission.spacing = s.admission.spacing
    ∧ (acceptPlan plan s).admission.waiters = s.admission.waiters
    ∧ (acceptPlan plan s).permits = s.permits
    ∧ (acceptPlan plan s).port.progressRejected = s.port.progressRejected
    ∧ (acceptPlan plan s).port.requests = s.port.requests ∧ (acceptPlan plan s).port.sdo = s.port.sdo
    ∧ (acceptPlan plan s).line.mode = s.line.mode
    ∧ (acceptPlan plan s).line.duplicateMark = s.line.duplicateMark
    ∧ (acceptPlan plan s).line.presenceRunning = s.line.presenceRunning
    ∧ (acceptPlan plan s).line.presenceTicks = s.line.presenceTicks
    ∧ (acceptPlan plan s).line.joinRunning = s.line.joinRunning
    ∧ (acceptPlan plan s).line.joinTicks = s.line.joinTicks
    ∧ (acceptPlan plan s).line.joinSlotDone = s.line.joinSlotDone
    ∧ (acceptPlan plan s).line.receiver = s.line.receiver := by
  simp [acceptPlan]

@[simp] theorem declinePlan_frame (s : State) :
    (declinePlan s).pending = s.pending ∧ (declinePlan s).power = s.power
    ∧ (declinePlan s).settings = s.settings ∧ (declinePlan s).freeIndex = s.freeIndex
    ∧ (declinePlan s).supply = s.supply ∧ (declinePlan s).gauge = s.gauge
    ∧ (declinePlan s).journal.intervalRunning = s.journal.intervalRunning
    ∧ (declinePlan s).journal.intervalTicks = s.journal.intervalTicks
    ∧ (declinePlan s).journal.slots = s.journal.slots
    ∧ (declinePlan s).context.freshTicks = s.context.freshTicks
    ∧ (declinePlan s).context.stillStarted = s.context.stillStarted
    ∧ (declinePlan s).assessor.gaugeOff = s.assessor.gaugeOff ∧ (declinePlan s).line = s.line
    ∧ (declinePlan s).view = s.view ∧ (declinePlan s).admission = s.admission
    ∧ (declinePlan s).permits = s.permits ∧ (declinePlan s).port.eventsLost = s.port.eventsLost
    ∧ (declinePlan s).port.progressRejected = s.port.progressRejected
    ∧ (declinePlan s).port.requests = s.port.requests ∧ (declinePlan s).port.sdo = s.port.sdo := by
  simp [declinePlan]

@[simp] theorem resumeAnswerOwner_frame (r : Request) (s : State) :
    (resumeAnswerOwner r s).pending = s.pending ∧ (resumeAnswerOwner r s).power = s.power
    ∧ (resumeAnswerOwner r s).settings = s.settings ∧ (resumeAnswerOwner r s).freeIndex = s.freeIndex
    ∧ (resumeAnswerOwner r s).supply = s.supply ∧ (resumeAnswerOwner r s).gauge = s.gauge
    ∧ (resumeAnswerOwner r s).journal.intervalRunning = s.journal.intervalRunning
    ∧ (resumeAnswerOwner r s).journal.intervalTicks = s.journal.intervalTicks
    ∧ (resumeAnswerOwner r s).journal.slots = s.journal.slots
    ∧ (resumeAnswerOwner r s).context.freshTicks = s.context.freshTicks
    ∧ (resumeAnswerOwner r s).context.stillStarted = s.context.stillStarted
    ∧ (resumeAnswerOwner r s).assessor.gaugeOff = s.assessor.gaugeOff
    ∧ (resumeAnswerOwner r s).view = s.view
    ∧ (resumeAnswerOwner r s).admission.ductEpisode = s.admission.ductEpisode
    ∧ (resumeAnswerOwner r s).admission.held = s.admission.held
    ∧ (resumeAnswerOwner r s).admission.ramp = s.admission.ramp
    ∧ (resumeAnswerOwner r s).admission.shedSettle = s.admission.shedSettle
    ∧ (resumeAnswerOwner r s).admission.spacing = s.admission.spacing
    ∧ (resumeAnswerOwner r s).admission.waiters = s.admission.waiters
    ∧ (resumeAnswerOwner r s).permits = s.permits
    ∧ (resumeAnswerOwner r s).port.progressRejected = s.port.progressRejected
    ∧ (resumeAnswerOwner r s).port.requests = s.port.requests
    ∧ (resumeAnswerOwner r s).port.sdo = s.port.sdo ∧ (resumeAnswerOwner r s).line.mode = s.line.mode
    ∧ (resumeAnswerOwner r s).line.duplicateMark = s.line.duplicateMark
    ∧ (resumeAnswerOwner r s).line.presenceRunning = s.line.presenceRunning
    ∧ (resumeAnswerOwner r s).line.presenceTicks = s.line.presenceTicks
    ∧ (resumeAnswerOwner r s).line.joinRunning = s.line.joinRunning
    ∧ (resumeAnswerOwner r s).line.joinTicks = s.line.joinTicks
    ∧ (resumeAnswerOwner r s).line.joinSlotDone = s.line.joinSlotDone
    ∧ (resumeAnswerOwner r s).line.receiver = s.line.receiver := by
  unfold resumeAnswerOwner; (repeat' split) <;> simp

@[simp] theorem leaveService_frame (s : State) :
    (leaveService s).pending = s.pending ∧ (leaveService s).power = s.power
    ∧ (leaveService s).settings = s.settings ∧ (leaveService s).freeIndex = s.freeIndex
    ∧ (leaveService s).exchange = s.exchange ∧ (leaveService s).supply = s.supply
    ∧ (leaveService s).gauge = s.gauge ∧ (leaveService s).journal = s.journal
    ∧ (leaveService s).context = s.context ∧ (leaveService s).assessor = s.assessor
    ∧ (leaveService s).line = s.line ∧ (leaveService s).view = s.view
    ∧ (leaveService s).admission = s.admission ∧ (leaveService s).permits = s.permits
    ∧ (leaveService s).port.events = s.port.events
    ∧ (leaveService s).port.eventsLost = s.port.eventsLost
    ∧ (leaveService s).port.progressRejected = s.port.progressRejected
    ∧ (leaveService s).port.requests = s.port.requests ∧ (leaveService s).port.sdo = s.port.sdo := by
  simp [leaveService]

@[simp] theorem requestStepOwner_frame (r : Request) (s : State) :
    (requestStepOwner r s).pending = s.pending ∧ (requestStepOwner r s).power = s.power
    ∧ (requestStepOwner r s).settings = s.settings ∧ (requestStepOwner r s).freeIndex = s.freeIndex
    ∧ (requestStepOwner r s).exchange = s.exchange ∧ (requestStepOwner r s).supply = s.supply
    ∧ (requestStepOwner r s).gauge = s.gauge ∧ (requestStepOwner r s).journal = s.journal
    ∧ (requestStepOwner r s).context = s.context ∧ (requestStepOwner r s).assessor = s.assessor
    ∧ (requestStepOwner r s).line = s.line ∧ (requestStepOwner r s).view = s.view
    ∧ (requestStepOwner r s).admission.claim = s.admission.claim
    ∧ (requestStepOwner r s).admission.ductEpisode = s.admission.ductEpisode
    ∧ (requestStepOwner r s).admission.held = s.admission.held
    ∧ (requestStepOwner r s).admission.ramp = s.admission.ramp
    ∧ (requestStepOwner r s).admission.shedSettle = s.admission.shedSettle
    ∧ (requestStepOwner r s).admission.spacing = s.admission.spacing
    ∧ (requestStepOwner r s).admission.testAtTick = s.admission.testAtTick
    ∧ (requestStepOwner r s).admission.waiters = s.admission.waiters
    ∧ (requestStepOwner r s).permits = s.permits
    ∧ (requestStepOwner r s).port.eventsLost = s.port.eventsLost
    ∧ (requestStepOwner r s).port.progressRejected = s.port.progressRejected
    ∧ (requestStepOwner r s).port.requests = s.port.requests
    ∧ (requestStepOwner r s).port.sdo = s.port.sdo := by
  unfold requestStepOwner; dsimp only; split <;> simp

@[simp] theorem dropStepOwner_frame (r : Request) (s : State) :
    (dropStepOwner r s).pending = s.pending ∧ (dropStepOwner r s).power = s.power
    ∧ (dropStepOwner r s).settings = s.settings ∧ (dropStepOwner r s).freeIndex = s.freeIndex
    ∧ (dropStepOwner r s).exchange = s.exchange ∧ (dropStepOwner r s).supply = s.supply
    ∧ (dropStepOwner r s).gauge = s.gauge ∧ (dropStepOwner r s).journal = s.journal
    ∧ (dropStepOwner r s).context = s.context ∧ (dropStepOwner r s).assessor = s.assessor
    ∧ (dropStepOwner r s).view = s.view
    ∧ (dropStepOwner r s).admission.ductEpisode = s.admission.ductEpisode
    ∧ (dropStepOwner r s).admission.ramp = s.admission.ramp
    ∧ (dropStepOwner r s).admission.shedSettle = s.admission.shedSettle
    ∧ (dropStepOwner r s).admission.spacing = s.admission.spacing
    ∧ (dropStepOwner r s).permits.doorCount = s.permits.doorCount
    ∧ (dropStepOwner r s).permits.doorOpen = s.permits.doorOpen
    ∧ (dropStepOwner r s).permits.doorRaw = s.permits.doorRaw
    ∧ (dropStepOwner r s).permits.doorInput = s.permits.doorInput
    ∧ (dropStepOwner r s).port.eventsLost = s.port.eventsLost
    ∧ (dropStepOwner r s).port.progressRejected = s.port.progressRejected
    ∧ (dropStepOwner r s).port.requests = s.port.requests ∧ (dropStepOwner r s).port.sdo = s.port.sdo
    ∧ (dropStepOwner r s).line.mode = s.line.mode
    ∧ (dropStepOwner r s).line.duplicateMark = s.line.duplicateMark
    ∧ (dropStepOwner r s).line.presenceRunning = s.line.presenceRunning
    ∧ (dropStepOwner r s).line.presenceTicks = s.line.presenceTicks
    ∧ (dropStepOwner r s).line.joinRunning = s.line.joinRunning
    ∧ (dropStepOwner r s).line.joinTicks = s.line.joinTicks
    ∧ (dropStepOwner r s).line.joinSlotDone = s.line.joinSlotDone
    ∧ (dropStepOwner r s).line.receiver = s.line.receiver := by
  unfold dropStepOwner; dsimp only; (repeat' split) <;> simp

@[simp] theorem holdReset_frame (s : State) :
    (holdReset s).pending = s.pending ∧ (holdReset s).settings = s.settings
    ∧ (holdReset s).freeIndex = s.freeIndex ∧ (holdReset s).exchange = s.exchange
    ∧ (holdReset s).supply = s.supply
    ∧ (holdReset s).gauge.chargingTime = s.gauge.chargingTime
    ∧ (holdReset s).gauge.gaugeState = s.gauge.gaugeState
    ∧ (holdReset s).gauge.journalN0 = s.gauge.journalN0
    ∧ (holdReset s).gauge.logRatio = s.gauge.logRatio ∧ (holdReset s).gauge.n0 = s.gauge.n0
    ∧ (holdReset s).gauge.previous = s.gauge.previous
    ∧ (holdReset s).gauge.releasedFromArmed = s.gauge.releasedFromArmed
    ∧ (holdReset s).gauge.startup = s.gauge.startup
    ∧ (holdReset s).journal.inFlight = s.journal.inFlight
    ∧ (holdReset s).journal.intervalRunning = s.journal.intervalRunning
    ∧ (holdReset s).journal.intervalTicks = s.journal.intervalTicks
    ∧ (holdReset s).journal.nextSeq = s.journal.nextSeq
    ∧ (holdReset s).journal.nextSlot = s.journal.nextSlot
    ∧ (holdReset s).journal.slots = s.journal.slots ∧ (holdReset s).context = s.context
    ∧ (holdReset s).assessor = s.assessor ∧ (holdReset s).line.duplicateMark = s.line.duplicateMark
    ∧ (holdReset s).line.failures = s.line.failures
    ∧ (holdReset s).line.joinRunning = s.line.joinRunning
    ∧ (holdReset s).line.joinSlotDone = s.line.joinSlotDone
    ∧ (holdReset s).line.joinTicks = s.line.joinTicks ∧ (holdReset s).line.mode = s.line.mode
    ∧ (holdReset s).line.presenceRunning = s.line.presenceRunning
    ∧ (holdReset s).line.presenceTicks = s.line.presenceTicks ∧ (holdReset s).line.queue = s.line.queue
    ∧ (holdReset s).view = s.view ∧ (holdReset s).admission = s.admission
    ∧ (holdReset s).permits.blank = s.permits.blank
    ∧ (holdReset s).permits.doorCount = s.permits.doorCount
    ∧ (holdReset s).permits.doorOpen = s.permits.doorOpen
    ∧ (holdReset s).permits.doorRaw = s.permits.doorRaw
    ∧ (holdReset s).permits.doorInput = s.permits.doorInput ∧ (holdReset s).permits.duty = s.permits.duty
    ∧ (holdReset s).permits.period = s.permits.period ∧ (holdReset s).port.events = s.port.events
    ∧ (holdReset s).port.eventsLost = s.port.eventsLost
    ∧ (holdReset s).port.inService = s.port.inService
    ∧ (holdReset s).port.progressRejected = s.port.progressRejected
    ∧ (holdReset s).port.requests = s.port.requests := by
  simp [holdReset]

@[simp] theorem endScan_frame (s : State) :
    (endScan s).pending = s.pending ∧ (endScan s).settings = s.settings
    ∧ (endScan s).freeIndex = s.freeIndex ∧ (endScan s).exchange = s.exchange
    ∧ (endScan s).supply = s.supply ∧ (endScan s).gauge.chargingTicks = s.gauge.chargingTicks
    ∧ (endScan s).gauge.chargingTime = s.gauge.chargingTime
    ∧ (endScan s).gauge.logRatio = s.gauge.logRatio ∧ (endScan s).gauge.n0 = s.gauge.n0
    ∧ (endScan s).gauge.previous = s.gauge.previous
    ∧ (endScan s).gauge.refreshTicks = s.gauge.refreshTicks
    ∧ (endScan s).gauge.releasedFromArmed = s.gauge.releasedFromArmed
    ∧ (endScan s).gauge.startup = s.gauge.startup
    ∧ (endScan s).journal.intervalRunning = s.journal.intervalRunning
    ∧ (endScan s).journal.intervalTicks = s.journal.intervalTicks
    ∧ (endScan s).journal.slots = s.journal.slots ∧ (endScan s).assessor.awaiting = s.assessor.awaiting
    ∧ (endScan s).assessor.gaugeOff = s.assessor.gaugeOff
    ∧ (endScan s).assessor.stage = s.assessor.stage ∧ (endScan s).line = s.line
    ∧ (endScan s).view = s.view ∧ (endScan s).admission = s.admission ∧ (endScan s).permits = s.permits
    ∧ (endScan s).port = s.port := by
  simp [endScan]

@[simp] theorem completeWrite_frame (f : InFlight) (s : State) :
    (completeWrite f s).pending = s.pending ∧ (completeWrite f s).power = s.power
    ∧ (completeWrite f s).settings = s.settings ∧ (completeWrite f s).freeIndex = s.freeIndex
    ∧ (completeWrite f s).exchange = s.exchange ∧ (completeWrite f s).supply = s.supply
    ∧ (completeWrite f s).gauge = s.gauge
    ∧ (completeWrite f s).journal.intervalRunning = s.journal.intervalRunning
    ∧ (completeWrite f s).journal.intervalTicks = s.journal.intervalTicks
    ∧ (completeWrite f s).context = s.context ∧ (completeWrite f s).assessor = s.assessor
    ∧ (completeWrite f s).line = s.line ∧ (completeWrite f s).view = s.view
    ∧ (completeWrite f s).admission = s.admission ∧ (completeWrite f s).permits = s.permits
    ∧ (completeWrite f s).port = s.port := by
  unfold completeWrite; split <;> simp

@[simp] theorem intervalExpiry_frame (s : State) :
    (intervalExpiry s).pending = s.pending ∧ (intervalExpiry s).power = s.power
    ∧ (intervalExpiry s).settings = s.settings ∧ (intervalExpiry s).freeIndex = s.freeIndex
    ∧ (intervalExpiry s).supply = s.supply ∧ (intervalExpiry s).gauge = s.gauge
    ∧ (intervalExpiry s).journal.intervalRunning = s.journal.intervalRunning
    ∧ (intervalExpiry s).journal.slots = s.journal.slots ∧ (intervalExpiry s).context = s.context
    ∧ (intervalExpiry s).assessor = s.assessor ∧ (intervalExpiry s).line = s.line
    ∧ (intervalExpiry s).view = s.view ∧ (intervalExpiry s).admission = s.admission
    ∧ (intervalExpiry s).permits = s.permits ∧ (intervalExpiry s).port = s.port := by
  unfold intervalExpiry; (repeat' split) <;> simp

@[simp] theorem freshnessLimit_frame (s : State) :
    (freshnessLimit s).pending = s.pending ∧ (freshnessLimit s).power = s.power
    ∧ (freshnessLimit s).settings = s.settings ∧ (freshnessLimit s).freeIndex = s.freeIndex
    ∧ (freshnessLimit s).exchange = s.exchange ∧ (freshnessLimit s).supply = s.supply
    ∧ (freshnessLimit s).gauge = s.gauge ∧ (freshnessLimit s).journal = s.journal
    ∧ (freshnessLimit s).context.aged = s.context.aged
    ∧ (freshnessLimit s).context.base = s.context.base
    ∧ (freshnessLimit s).context.cycleState = s.context.cycleState
    ∧ (freshnessLimit s).context.doorSeen = s.context.doorSeen
    ∧ (freshnessLimit s).context.plan = s.context.plan
    ∧ (freshnessLimit s).context.progress = s.context.progress
    ∧ (freshnessLimit s).context.still = s.context.still
    ∧ (freshnessLimit s).context.stillStarted = s.context.stillStarted
    ∧ (freshnessLimit s).context.stillTicks = s.context.stillTicks
    ∧ (freshnessLimit s).context.stopReason = s.context.stopReason
    ∧ (freshnessLimit s).assessor = s.assessor ∧ (freshnessLimit s).line = s.line
    ∧ (freshnessLimit s).view = s.view ∧ (freshnessLimit s).admission = s.admission
    ∧ (freshnessLimit s).permits = s.permits ∧ (freshnessLimit s).port.inService = s.port.inService
    ∧ (freshnessLimit s).port.progressRejected = s.port.progressRejected
    ∧ (freshnessLimit s).port.requests = s.port.requests ∧ (freshnessLimit s).port.sdo = s.port.sdo := by
  unfold freshnessLimit; (repeat' split) <;> simp

@[simp] theorem stillSecond_frame (s : State) :
    (stillSecond s).pending = s.pending ∧ (stillSecond s).power = s.power
    ∧ (stillSecond s).settings = s.settings ∧ (stillSecond s).freeIndex = s.freeIndex
    ∧ (stillSecond s).supply = s.supply ∧ (stillSecond s).gauge = s.gauge
    ∧ (stillSecond s).journal.intervalRunning = s.journal.intervalRunning
    ∧ (stillSecond s).journal.intervalTicks = s.journal.intervalTicks
    ∧ (stillSecond s).journal.slots = s.journal.slots
    ∧ (stillSecond s).context.freshTicks = s.context.freshTicks
    ∧ (stillSecond s).context.stillStarted = s.context.stillStarted
    ∧ (stillSecond s).assessor.gaugeOff = s.assessor.gaugeOff ∧ (stillSecond s).view = s.view
    ∧ (stillSecond s).admission.ductEpisode = s.admission.ductEpisode
    ∧ (stillSecond s).admission.held = s.admission.held
    ∧ (stillSecond s).admission.ramp = s.admission.ramp
    ∧ (stillSecond s).admission.shedSettle = s.admission.shedSettle
    ∧ (stillSecond s).admission.spacing = s.admission.spacing
    ∧ (stillSecond s).admission.waiters = s.admission.waiters ∧ (stillSecond s).permits = s.permits
    ∧ (stillSecond s).port.inService = s.port.inService
    ∧ (stillSecond s).port.progressRejected = s.port.progressRejected
    ∧ (stillSecond s).port.requests = s.port.requests ∧ (stillSecond s).port.sdo = s.port.sdo
    ∧ (stillSecond s).line.mode = s.line.mode
    ∧ (stillSecond s).line.duplicateMark = s.line.duplicateMark
    ∧ (stillSecond s).line.presenceRunning = s.line.presenceRunning
    ∧ (stillSecond s).line.presenceTicks = s.line.presenceTicks
    ∧ (stillSecond s).line.joinRunning = s.line.joinRunning
    ∧ (stillSecond s).line.joinTicks = s.line.joinTicks
    ∧ (stillSecond s).line.joinSlotDone = s.line.joinSlotDone
    ∧ (stillSecond s).line.receiver = s.line.receiver := by
  unfold stillSecond; split <;> simp

@[simp] theorem pulse_frame (s : State) :
    (pulse s).pending = s.pending ∧ (pulse s).power = s.power ∧ (pulse s).settings = s.settings
    ∧ (pulse s).freeIndex = s.freeIndex ∧ (pulse s).exchange = s.exchange
    ∧ (pulse s).supply.carried = s.supply.carried ∧ (pulse s).supply.cause = s.supply.cause
    ∧ (pulse s).supply.lossReading = s.supply.lossReading
    ∧ (pulse s).supply.lossRunning = s.supply.lossRunning
    ∧ (pulse s).supply.lossTicks = s.supply.lossTicks ∧ (pulse s).supply.vhold = s.supply.vhold
    ∧ (pulse s).gauge = s.gauge ∧ (pulse s).journal.intervalRunning = s.journal.intervalRunning
    ∧ (pulse s).journal.intervalTicks = s.journal.intervalTicks
    ∧ (pulse s).journal.slots = s.journal.slots ∧ (pulse s).context = s.context
    ∧ (pulse s).assessor = s.assessor ∧ (pulse s).line = s.line ∧ (pulse s).view = s.view
    ∧ (pulse s).admission = s.admission ∧ (pulse s).permits = s.permits ∧ (pulse s).port = s.port := by
  unfold pulse; (repeat' split) <;> simp

@[simp] theorem dropout_frame (s : State) :
    (dropout s).pending = s.pending ∧ (dropout s).power = s.power ∧ (dropout s).settings = s.settings
    ∧ (dropout s).freeIndex = s.freeIndex := by
  unfold dropout; (repeat' split) <;> simp

@[simp] theorem newReading_frame (reading : VholdReading) (s : State) :
    (newReading reading s).pending = s.pending ∧ (newReading reading s).power = s.power
    ∧ (newReading reading s).settings = s.settings ∧ (newReading reading s).freeIndex = s.freeIndex
    ∧ (newReading reading s).exchange = s.exchange
    ∧ (newReading reading s).supply.absence = s.supply.absence
    ∧ (newReading reading s).supply.carried = s.supply.carried
    ∧ (newReading reading s).supply.cause = s.supply.cause
    ∧ (newReading reading s).supply.lossReading = s.supply.lossReading
    ∧ (newReading reading s).supply.lossRunning = s.supply.lossRunning
    ∧ (newReading reading s).supply.lossTicks = s.supply.lossTicks
    ∧ (newReading reading s).supply.pulseSeen = s.supply.pulseSeen
    ∧ (newReading reading s).gauge = s.gauge
    ∧ (newReading reading s).journal.intervalRunning = s.journal.intervalRunning
    ∧ (newReading reading s).journal.intervalTicks = s.journal.intervalTicks
    ∧ (newReading reading s).journal.slots = s.journal.slots
    ∧ (newReading reading s).context = s.context ∧ (newReading reading s).assessor = s.assessor
    ∧ (newReading reading s).line.duplicateMark = s.line.duplicateMark
    ∧ (newReading reading s).line.receiver = s.line.receiver
    ∧ (newReading reading s).line.joinRunning = s.line.joinRunning
    ∧ (newReading reading s).line.joinSlotDone = s.line.joinSlotDone
    ∧ (newReading reading s).line.joinTicks = s.line.joinTicks
    ∧ (newReading reading s).line.mode = s.line.mode
    ∧ (newReading reading s).line.presenceRunning = s.line.presenceRunning
    ∧ (newReading reading s).line.presenceTicks = s.line.presenceTicks
    ∧ (newReading reading s).view = s.view ∧ (newReading reading s).admission = s.admission
    ∧ (newReading reading s).permits = s.permits ∧ (newReading reading s).port = s.port := by
  unfold newReading; (repeat' split) <;> simp

@[simp] theorem lossSecond_frame (s : State) :
    (lossSecond s).pending = s.pending ∧ (lossSecond s).power = s.power
    ∧ (lossSecond s).settings = s.settings ∧ (lossSecond s).freeIndex = s.freeIndex
    ∧ (lossSecond s).exchange = s.exchange ∧ (lossSecond s).supply.absence = s.supply.absence
    ∧ (lossSecond s).supply.carried = s.supply.carried ∧ (lossSecond s).supply.cause = s.supply.cause
    ∧ (lossSecond s).supply.lossRunning = s.supply.lossRunning
    ∧ (lossSecond s).supply.pulseSeen = s.supply.pulseSeen
    ∧ (lossSecond s).supply.settle = s.supply.settle
    ∧ (lossSecond s).supply.settleOpen = s.supply.settleOpen
    ∧ (lossSecond s).supply.supplyState = s.supply.supplyState
    ∧ (lossSecond s).supply.vhold = s.supply.vhold ∧ (lossSecond s).gauge = s.gauge
    ∧ (lossSecond s).journal = s.journal ∧ (lossSecond s).context = s.context
    ∧ (lossSecond s).assessor = s.assessor ∧ (lossSecond s).line = s.line ∧ (lossSecond s).view = s.view
    ∧ (lossSecond s).admission = s.admission ∧ (lossSecond s).permits = s.permits
    ∧ (lossSecond s).port = s.port := by
  unfold lossSecond; split <;> simp

@[simp] theorem enterOnMains_frame (s : State) :
    (enterOnMains s).pending = s.pending ∧ (enterOnMains s).power = s.power
    ∧ (enterOnMains s).settings = s.settings ∧ (enterOnMains s).freeIndex = s.freeIndex
    ∧ (enterOnMains s).exchange = s.exchange ∧ (enterOnMains s).supply.absence = s.supply.absence
    ∧ (enterOnMains s).supply.carried = s.supply.carried
    ∧ (enterOnMains s).supply.cause = s.supply.cause
    ∧ (enterOnMains s).supply.lossReading = s.supply.lossReading
    ∧ (enterOnMains s).supply.lossRunning = s.supply.lossRunning
    ∧ (enterOnMains s).supply.lossTicks = s.supply.lossTicks
    ∧ (enterOnMains s).supply.pulseSeen = s.supply.pulseSeen
    ∧ (enterOnMains s).supply.vhold = s.supply.vhold ∧ (enterOnMains s).gauge = s.gauge
    ∧ (enterOnMains s).journal = s.journal ∧ (enterOnMains s).context = s.context
    ∧ (enterOnMains s).assessor = s.assessor ∧ (enterOnMains s).line = s.line
    ∧ (enterOnMains s).view = s.view ∧ (enterOnMains s).admission = s.admission
    ∧ (enterOnMains s).permits = s.permits ∧ (enterOnMains s).port = s.port := by
  simp [enterOnMains]

@[simp] theorem confirmStart_frame (s : State) :
    (confirmStart s).pending = s.pending ∧ (confirmStart s).power = s.power
    ∧ (confirmStart s).settings = s.settings ∧ (confirmStart s).freeIndex = s.freeIndex
    ∧ (confirmStart s).exchange = s.exchange ∧ (confirmStart s).supply.absence = s.supply.absence
    ∧ (confirmStart s).supply.carried = s.supply.carried
    ∧ (confirmStart s).supply.cause = s.supply.cause
    ∧ (confirmStart s).supply.lossReading = s.supply.lossReading
    ∧ (confirmStart s).supply.lossRunning = s.supply.lossRunning
    ∧ (confirmStart s).supply.lossTicks = s.supply.lossTicks
    ∧ (confirmStart s).supply.pulseSeen = s.supply.pulseSeen
    ∧ (confirmStart s).supply.vhold = s.supply.vhold ∧ (confirmStart s).gauge = s.gauge
    ∧ (confirmStart s).journal = s.journal ∧ (confirmStart s).context = s.context
    ∧ (confirmStart s).assessor = s.assessor
    ∧ (confirmStart s).line.duplicateMark = s.line.duplicateMark
    ∧ (confirmStart s).admission = s.admission ∧ (confirmStart s).permits = s.permits
    ∧ (confirmStart s).port = s.port := by
  unfold confirmStart; (repeat' split) <;> simp

@[simp] theorem emptyLine_frame (s : State) :
    (emptyLine s).pending = s.pending ∧ (emptyLine s).power = s.power
    ∧ (emptyLine s).settings = s.settings ∧ (emptyLine s).freeIndex = s.freeIndex
    ∧ (emptyLine s).exchange = s.exchange ∧ (emptyLine s).supply = s.supply
    ∧ (emptyLine s).gauge = s.gauge ∧ (emptyLine s).journal = s.journal
    ∧ (emptyLine s).context = s.context ∧ (emptyLine s).assessor = s.assessor
    ∧ (emptyLine s).line.duplicateMark = s.line.duplicateMark
    ∧ (emptyLine s).line.receiver = s.line.receiver
    ∧ (emptyLine s).line.joinRunning = s.line.joinRunning
    ∧ (emptyLine s).line.joinSlotDone = s.line.joinSlotDone
    ∧ (emptyLine s).line.joinTicks = s.line.joinTicks ∧ (emptyLine s).line.mode = s.line.mode
    ∧ (emptyLine s).line.presenceRunning = s.line.presenceRunning
    ∧ (emptyLine s).line.presenceTicks = s.line.presenceTicks ∧ (emptyLine s).view = s.view
    ∧ (emptyLine s).admission = s.admission ∧ (emptyLine s).permits = s.permits
    ∧ (emptyLine s).port = s.port := by
  simp [emptyLine]

@[simp] theorem confirmReturn_frame (s : State) :
    (confirmReturn s).pending = s.pending ∧ (confirmReturn s).power = s.power
    ∧ (confirmReturn s).settings = s.settings ∧ (confirmReturn s).freeIndex = s.freeIndex
    ∧ (confirmReturn s).supply.absence = s.supply.absence
    ∧ (confirmReturn s).supply.cause = s.supply.cause
    ∧ (confirmReturn s).supply.lossReading = s.supply.lossReading
    ∧ (confirmReturn s).supply.lossTicks = s.supply.lossTicks
    ∧ (confirmReturn s).supply.pulseSeen = s.supply.pulseSeen
    ∧ (confirmReturn s).supply.vhold = s.supply.vhold
    ∧ (confirmReturn s).journal.intervalRunning = s.journal.intervalRunning
    ∧ (confirmReturn s).journal.intervalTicks = s.journal.intervalTicks
    ∧ (confirmReturn s).journal.slots = s.journal.slots
    ∧ (confirmReturn s).context.freshTicks = s.context.freshTicks
    ∧ (confirmReturn s).assessor.gaugeOff = s.assessor.gaugeOff
    ∧ (confirmReturn s).line.duplicateMark = s.line.duplicateMark
    ∧ (confirmReturn s).admission = s.admission ∧ (confirmReturn s).permits = s.permits
    ∧ (confirmReturn s).port.inService = s.port.inService
    ∧ (confirmReturn s).port.progressRejected = s.port.progressRejected
    ∧ (confirmReturn s).port.requests = s.port.requests ∧ (confirmReturn s).port.sdo = s.port.sdo := by
  unfold confirmReturn; dsimp only; (repeat' split) <;> simp

@[simp] theorem endReading_frame (counter : BitVec 16) (s : State) :
    (endReading counter s).pending = s.pending ∧ (endReading counter s).power = s.power
    ∧ (endReading counter s).settings = s.settings ∧ (endReading counter s).freeIndex = s.freeIndex
    ∧ (endReading counter s).exchange = s.exchange ∧ (endReading counter s).supply = s.supply
    ∧ (endReading counter s).journal = s.journal ∧ (endReading counter s).context.aged = s.context.aged
    ∧ (endReading counter s).context.base = s.context.base
    ∧ (endReading counter s).context.cycleState = s.context.cycleState
    ∧ (endReading counter s).context.doorSeen = s.context.doorSeen
    ∧ (endReading counter s).context.freshRunning = s.context.freshRunning
    ∧ (endReading counter s).context.freshTicks = s.context.freshTicks
    ∧ (endReading counter s).context.plan = s.context.plan
    ∧ (endReading counter s).context.progress = s.context.progress
    ∧ (endReading counter s).context.stale = s.context.stale
    ∧ (endReading counter s).context.still = s.context.still
    ∧ (endReading counter s).context.stillTicks = s.context.stillTicks
    ∧ (endReading counter s).context.stopReason = s.context.stopReason
    ∧ (endReading counter s).assessor = s.assessor ∧ (endReading counter s).line = s.line
    ∧ (endReading counter s).view = s.view ∧ (endReading counter s).admission = s.admission
    ∧ (endReading counter s).permits = s.permits
    ∧ (endReading counter s).port.inService = s.port.inService
    ∧ (endReading counter s).port.progressRejected = s.port.progressRejected
    ∧ (endReading counter s).port.requests = s.port.requests
    ∧ (endReading counter s).port.sdo = s.port.sdo := by
  unfold endReading; split <;> simp

@[simp] theorem resumeConfigure_frame (s : State) :
    (resumeConfigure s).pending = s.pending ∧ (resumeConfigure s).power = s.power
    ∧ (resumeConfigure s).freeIndex = s.freeIndex
    ∧ (resumeConfigure s).supply.absence = s.supply.absence
    ∧ (resumeConfigure s).supply.cause = s.supply.cause
    ∧ (resumeConfigure s).supply.lossReading = s.supply.lossReading
    ∧ (resumeConfigure s).supply.lossRunning = s.supply.lossRunning
    ∧ (resumeConfigure s).supply.lossTicks = s.supply.lossTicks
    ∧ (resumeConfigure s).supply.pulseSeen = s.supply.pulseSeen
    ∧ (resumeConfigure s).supply.settle = s.supply.settle
    ∧ (resumeConfigure s).supply.settleOpen = s.supply.settleOpen
    ∧ (resumeConfigure s).supply.supplyState = s.supply.supplyState
    ∧ (resumeConfigure s).supply.vhold = s.supply.vhold ∧ (resumeConfigure s).gauge = s.gauge
    ∧ (resumeConfigure s).journal.slots = s.journal.slots
    ∧ (resumeConfigure s).context.freshTicks = s.context.freshTicks
    ∧ (resumeConfigure s).context.stillStarted = s.context.stillStarted
    ∧ (resumeConfigure s).line.duplicateMark = s.line.duplicateMark
    ∧ (resumeConfigure s).admission = s.admission ∧ (resumeConfigure s).permits = s.permits
    ∧ (resumeConfigure s).port.progressRejected = s.port.progressRejected
    ∧ (resumeConfigure s).port.requests = s.port.requests ∧ (resumeConfigure s).port.sdo = s.port.sdo := by
  unfold resumeConfigure; split <;> simp

@[simp] theorem startCharging_frame (s : State) :
    (startCharging s).pending = s.pending ∧ (startCharging s).power = s.power
    ∧ (startCharging s).settings = s.settings ∧ (startCharging s).freeIndex = s.freeIndex
    ∧ (startCharging s).exchange = s.exchange ∧ (startCharging s).supply = s.supply
    ∧ (startCharging s).gauge.gaugeState = s.gauge.gaugeState
    ∧ (startCharging s).gauge.journalN0 = s.gauge.journalN0
    ∧ (startCharging s).gauge.logRatio = s.gauge.logRatio ∧ (startCharging s).gauge.n0 = s.gauge.n0
    ∧ (startCharging s).gauge.previous = s.gauge.previous
    ∧ (startCharging s).gauge.refreshTicks = s.gauge.refreshTicks
    ∧ (startCharging s).gauge.releasedFromArmed = s.gauge.releasedFromArmed
    ∧ (startCharging s).gauge.startup = s.gauge.startup ∧ (startCharging s).journal = s.journal
    ∧ (startCharging s).context = s.context ∧ (startCharging s).assessor = s.assessor
    ∧ (startCharging s).line = s.line ∧ (startCharging s).view = s.view
    ∧ (startCharging s).admission = s.admission ∧ (startCharging s).permits = s.permits
    ∧ (startCharging s).port = s.port := by
  unfold startCharging; split <;> simp

@[simp] theorem keepCount_frame (n : Nat) (s : State) :
    (keepCount n s).pending = s.pending ∧ (keepCount n s).power = s.power
    ∧ (keepCount n s).settings = s.settings ∧ (keepCount n s).freeIndex = s.freeIndex
    ∧ (keepCount n s).exchange = s.exchange ∧ (keepCount n s).supply = s.supply
    ∧ (keepCount n s).gauge.chargingTicks = s.gauge.chargingTicks
    ∧ (keepCount n s).gauge.chargingTime = s.gauge.chargingTime
    ∧ (keepCount n s).gauge.converting = s.gauge.converting
    ∧ (keepCount n s).gauge.gaugeState = s.gauge.gaugeState
    ∧ (keepCount n s).gauge.journalN0 = s.gauge.journalN0
    ∧ (keepCount n s).gauge.logRatio = s.gauge.logRatio ∧ (keepCount n s).gauge.n0 = s.gauge.n0
    ∧ (keepCount n s).gauge.refreshTicks = s.gauge.refreshTicks
    ∧ (keepCount n s).gauge.releasedFromArmed = s.gauge.releasedFromArmed
    ∧ (keepCount n s).gauge.startup = s.gauge.startup ∧ (keepCount n s).journal = s.journal
    ∧ (keepCount n s).context = s.context ∧ (keepCount n s).assessor = s.assessor
    ∧ (keepCount n s).line = s.line ∧ (keepCount n s).view = s.view
    ∧ (keepCount n s).admission = s.admission ∧ (keepCount n s).permits = s.permits
    ∧ (keepCount n s).port = s.port := by
  simp [keepCount]

@[simp] theorem judgeCharging_frame (counter : BitVec 16) (s : State) :
    (judgeCharging counter s).pending = s.pending ∧ (judgeCharging counter s).power = s.power
    ∧ (judgeCharging counter s).settings = s.settings
    ∧ (judgeCharging counter s).freeIndex = s.freeIndex
    ∧ (judgeCharging counter s).exchange = s.exchange ∧ (judgeCharging counter s).supply = s.supply
    ∧ (judgeCharging counter s).gauge.chargingTicks = s.gauge.chargingTicks
    ∧ (judgeCharging counter s).gauge.chargingTime = s.gauge.chargingTime
    ∧ (judgeCharging counter s).gauge.journalN0 = s.gauge.journalN0
    ∧ (judgeCharging counter s).gauge.logRatio = s.gauge.logRatio
    ∧ (judgeCharging counter s).gauge.releasedFromArmed = s.gauge.releasedFromArmed
    ∧ (judgeCharging counter s).gauge.startup = s.gauge.startup
    ∧ (judgeCharging counter s).journal = s.journal ∧ (judgeCharging counter s).context = s.context
    ∧ (judgeCharging counter s).assessor = s.assessor ∧ (judgeCharging counter s).line = s.line
    ∧ (judgeCharging counter s).view = s.view ∧ (judgeCharging counter s).admission = s.admission
    ∧ (judgeCharging counter s).permits = s.permits
    ∧ (judgeCharging counter s).port.inService = s.port.inService
    ∧ (judgeCharging counter s).port.progressRejected = s.port.progressRejected
    ∧ (judgeCharging counter s).port.requests = s.port.requests
    ∧ (judgeCharging counter s).port.sdo = s.port.sdo := by
  unfold judgeCharging; dsimp only; (repeat' split) <;> simp

@[simp] theorem startRefresh_frame (s : State) :
    (startRefresh s).pending = s.pending ∧ (startRefresh s).power = s.power
    ∧ (startRefresh s).settings = s.settings ∧ (startRefresh s).freeIndex = s.freeIndex
    ∧ (startRefresh s).exchange = s.exchange ∧ (startRefresh s).supply = s.supply
    ∧ (startRefresh s).gauge.chargingTicks = s.gauge.chargingTicks
    ∧ (startRefresh s).gauge.chargingTime = s.gauge.chargingTime
    ∧ (startRefresh s).gauge.gaugeState = s.gauge.gaugeState
    ∧ (startRefresh s).gauge.journalN0 = s.gauge.journalN0
    ∧ (startRefresh s).gauge.logRatio = s.gauge.logRatio ∧ (startRefresh s).gauge.n0 = s.gauge.n0
    ∧ (startRefresh s).gauge.previous = s.gauge.previous
    ∧ (startRefresh s).gauge.releasedFromArmed = s.gauge.releasedFromArmed
    ∧ (startRefresh s).gauge.startup = s.gauge.startup ∧ (startRefresh s).journal = s.journal
    ∧ (startRefresh s).context = s.context ∧ (startRefresh s).assessor = s.assessor
    ∧ (startRefresh s).line = s.line ∧ (startRefresh s).view = s.view
    ∧ (startRefresh s).admission = s.admission ∧ (startRefresh s).permits = s.permits
    ∧ (startRefresh s).port = s.port := by
  unfold startRefresh; split <;> simp

@[simp] theorem judgeRefresh_frame (counter : BitVec 16) (s : State) :
    (judgeRefresh counter s).pending = s.pending ∧ (judgeRefresh counter s).power = s.power
    ∧ (judgeRefresh counter s).settings = s.settings ∧ (judgeRefresh counter s).freeIndex = s.freeIndex
    ∧ (judgeRefresh counter s).exchange = s.exchange ∧ (judgeRefresh counter s).supply = s.supply
    ∧ (judgeRefresh counter s).gauge.chargingTicks = s.gauge.chargingTicks
    ∧ (judgeRefresh counter s).gauge.chargingTime = s.gauge.chargingTime
    ∧ (judgeRefresh counter s).gauge.journalN0 = s.gauge.journalN0
    ∧ (judgeRefresh counter s).gauge.logRatio = s.gauge.logRatio
    ∧ (judgeRefresh counter s).gauge.previous = s.gauge.previous
    ∧ (judgeRefresh counter s).gauge.refreshTicks = s.gauge.refreshTicks
    ∧ (judgeRefresh counter s).gauge.releasedFromArmed = s.gauge.releasedFromArmed
    ∧ (judgeRefresh counter s).gauge.startup = s.gauge.startup
    ∧ (judgeRefresh counter s).journal = s.journal ∧ (judgeRefresh counter s).context = s.context
    ∧ (judgeRefresh counter s).assessor = s.assessor ∧ (judgeRefresh counter s).line = s.line
    ∧ (judgeRefresh counter s).view = s.view ∧ (judgeRefresh counter s).admission = s.admission
    ∧ (judgeRefresh counter s).permits = s.permits
    ∧ (judgeRefresh counter s).port.inService = s.port.inService
    ∧ (judgeRefresh counter s).port.progressRejected = s.port.progressRejected
    ∧ (judgeRefresh counter s).port.requests = s.port.requests
    ∧ (judgeRefresh counter s).port.sdo = s.port.sdo := by
  unfold judgeRefresh; (repeat' split) <;> simp

@[simp] theorem endAttempt_frame (levels : List Bool) (s : State) :
    (endAttempt levels s).pending = s.pending ∧ (endAttempt levels s).power = s.power
    ∧ (endAttempt levels s).settings = s.settings ∧ (endAttempt levels s).freeIndex = s.freeIndex
    ∧ (endAttempt levels s).exchange = s.exchange ∧ (endAttempt levels s).supply = s.supply
    ∧ (endAttempt levels s).gauge = s.gauge ∧ (endAttempt levels s).journal = s.journal
    ∧ (endAttempt levels s).context = s.context ∧ (endAttempt levels s).assessor = s.assessor
    ∧ (endAttempt levels s).line.duplicateMark = s.line.duplicateMark
    ∧ (endAttempt levels s).line.failures = s.line.failures
    ∧ (endAttempt levels s).line.joinRunning = s.line.joinRunning
    ∧ (endAttempt levels s).line.joinSlotDone = s.line.joinSlotDone
    ∧ (endAttempt levels s).line.joinTicks = s.line.joinTicks
    ∧ (endAttempt levels s).line.mode = s.line.mode
    ∧ (endAttempt levels s).line.presenceRunning = s.line.presenceRunning
    ∧ (endAttempt levels s).line.presenceTicks = s.line.presenceTicks
    ∧ (endAttempt levels s).line.queue = s.line.queue ∧ (endAttempt levels s).view = s.view
    ∧ (endAttempt levels s).admission = s.admission ∧ (endAttempt levels s).permits = s.permits
    ∧ (endAttempt levels s).port = s.port := by
  simp [endAttempt]

@[simp] theorem ownFrameRead_frame (a : Attempt) (s : State) :
    (ownFrameRead a s).pending = s.pending ∧ (ownFrameRead a s).power = s.power
    ∧ (ownFrameRead a s).settings = s.settings ∧ (ownFrameRead a s).freeIndex = s.freeIndex
    ∧ (ownFrameRead a s).exchange = s.exchange ∧ (ownFrameRead a s).supply = s.supply
    ∧ (ownFrameRead a s).gauge = s.gauge ∧ (ownFrameRead a s).journal = s.journal
    ∧ (ownFrameRead a s).context = s.context ∧ (ownFrameRead a s).assessor = s.assessor
    ∧ (ownFrameRead a s).line.duplicateMark = s.line.duplicateMark
    ∧ (ownFrameRead a s).line.failures = s.line.failures
    ∧ (ownFrameRead a s).line.joinRunning = s.line.joinRunning
    ∧ (ownFrameRead a s).line.joinSlotDone = s.line.joinSlotDone
    ∧ (ownFrameRead a s).line.joinTicks = s.line.joinTicks
    ∧ (ownFrameRead a s).line.mode = s.line.mode
    ∧ (ownFrameRead a s).line.presenceRunning = s.line.presenceRunning
    ∧ (ownFrameRead a s).line.presenceTicks = s.line.presenceTicks
    ∧ (ownFrameRead a s).line.queue = s.line.queue ∧ (ownFrameRead a s).view = s.view
    ∧ (ownFrameRead a s).admission = s.admission ∧ (ownFrameRead a s).permits = s.permits
    ∧ (ownFrameRead a s).port = s.port := by
  simp [ownFrameRead]

@[simp] theorem failAttempt_frame (a : Attempt) (bit : Nat) (s : State) :
    (failAttempt a bit s).pending = s.pending ∧ (failAttempt a bit s).power = s.power
    ∧ (failAttempt a bit s).settings = s.settings ∧ (failAttempt a bit s).freeIndex = s.freeIndex
    ∧ (failAttempt a bit s).exchange = s.exchange ∧ (failAttempt a bit s).supply = s.supply
    ∧ (failAttempt a bit s).gauge = s.gauge ∧ (failAttempt a bit s).journal = s.journal
    ∧ (failAttempt a bit s).context = s.context ∧ (failAttempt a bit s).assessor = s.assessor
    ∧ (failAttempt a bit s).view = s.view
    ∧ (failAttempt a bit s).line.duplicateMark = s.line.duplicateMark
    ∧ (failAttempt a bit s).line.joinTicks = s.line.joinTicks
    ∧ (failAttempt a bit s).line.joinSlotDone = s.line.joinSlotDone
    ∧ (failAttempt a bit s).permits.doorOpen = s.permits.doorOpen
    ∧ (failAttempt a bit s).permits.doorCount = s.permits.doorCount
    ∧ (failAttempt a bit s).permits.doorRaw = s.permits.doorRaw
    ∧ (failAttempt a bit s).permits.doorInput = s.permits.doorInput
    ∧ (failAttempt a bit s).port.requests = s.port.requests
    ∧ (failAttempt a bit s).port.inService = s.port.inService
    ∧ (failAttempt a bit s).port.progressRejected = s.port.progressRejected
    ∧ (failAttempt a bit s).port.sdo = s.port.sdo := by
  unfold failAttempt; dsimp only; (repeat' split) <;> simp

@[simp] theorem clearFault_frame (s : State) :
    (clearFault s).pending = s.pending ∧ (clearFault s).power = s.power
    ∧ (clearFault s).settings = s.settings ∧ (clearFault s).freeIndex = s.freeIndex
    ∧ (clearFault s).exchange = s.exchange ∧ (clearFault s).supply = s.supply
    ∧ (clearFault s).gauge = s.gauge ∧ (clearFault s).journal = s.journal
    ∧ (clearFault s).context = s.context ∧ (clearFault s).assessor = s.assessor
    ∧ (clearFault s).view = s.view ∧ (clearFault s).line.duplicateMark = s.line.duplicateMark
    ∧ (clearFault s).line.presenceRunning = s.line.presenceRunning
    ∧ (clearFault s).line.presenceTicks = s.line.presenceTicks
    ∧ (clearFault s).line.joinRunning = s.line.joinRunning
    ∧ (clearFault s).line.joinTicks = s.line.joinTicks
    ∧ (clearFault s).line.joinSlotDone = s.line.joinSlotDone
    ∧ (clearFault s).line.receiver = s.line.receiver
    ∧ (clearFault s).permits.doorOpen = s.permits.doorOpen
    ∧ (clearFault s).permits.doorCount = s.permits.doorCount
    ∧ (clearFault s).permits.doorRaw = s.permits.doorRaw
    ∧ (clearFault s).permits.doorInput = s.permits.doorInput
    ∧ (clearFault s).port.requests = s.port.requests ∧ (clearFault s).port.inService = s.port.inService
    ∧ (clearFault s).port.progressRejected = s.port.progressRejected
    ∧ (clearFault s).port.sdo = s.port.sdo := by
  unfold clearFault; split <;> simp

@[simp] theorem finishAttempt_frame (a : Attempt) (s : State) :
    (finishAttempt a s).pending = s.pending ∧ (finishAttempt a s).power = s.power
    ∧ (finishAttempt a s).settings = s.settings ∧ (finishAttempt a s).freeIndex = s.freeIndex
    ∧ (finishAttempt a s).exchange = s.exchange ∧ (finishAttempt a s).supply = s.supply
    ∧ (finishAttempt a s).gauge = s.gauge ∧ (finishAttempt a s).journal = s.journal
    ∧ (finishAttempt a s).context = s.context ∧ (finishAttempt a s).assessor = s.assessor
    ∧ (finishAttempt a s).view = s.view ∧ (finishAttempt a s).line.duplicateMark = s.line.duplicateMark
    ∧ (finishAttempt a s).line.joinTicks = s.line.joinTicks
    ∧ (finishAttempt a s).line.joinSlotDone = s.line.joinSlotDone
    ∧ (finishAttempt a s).line.joinRunning = s.line.joinRunning
    ∧ (finishAttempt a s).permits.doorOpen = s.permits.doorOpen
    ∧ (finishAttempt a s).permits.doorCount = s.permits.doorCount
    ∧ (finishAttempt a s).permits.doorRaw = s.permits.doorRaw
    ∧ (finishAttempt a s).permits.doorInput = s.permits.doorInput
    ∧ (finishAttempt a s).port.requests = s.port.requests
    ∧ (finishAttempt a s).port.inService = s.port.inService
    ∧ (finishAttempt a s).port.progressRejected = s.port.progressRejected
    ∧ (finishAttempt a s).port.sdo = s.port.sdo := by
  unfold finishAttempt; split <;> simp

@[simp] theorem judgeFrame_frame (f : Frame) (s : State) :
    (judgeFrame f s).pending = s.pending ∧ (judgeFrame f s).power = s.power
    ∧ (judgeFrame f s).settings = s.settings
    ∧ (judgeFrame f s).freeIndex = s.freeIndex
    ∧ (judgeFrame f s).exchange = s.exchange ∧ (judgeFrame f s).supply = s.supply
    ∧ (judgeFrame f s).gauge = s.gauge ∧ (judgeFrame f s).journal = s.journal
    ∧ (judgeFrame f s).context = s.context ∧ (judgeFrame f s).assessor = s.assessor
    ∧ (judgeFrame f s).line.joinTicks = s.line.joinTicks
    ∧ (judgeFrame f s).line.joinSlotDone = s.line.joinSlotDone
    ∧ (judgeFrame f s).line.receiver = s.line.receiver
    ∧ (judgeFrame f s).permits.doorOpen = s.permits.doorOpen
    ∧ (judgeFrame f s).permits.doorCount = s.permits.doorCount
    ∧ (judgeFrame f s).permits.doorRaw = s.permits.doorRaw
    ∧ (judgeFrame f s).permits.doorInput = s.permits.doorInput
    ∧ (judgeFrame f s).port.requests = s.port.requests
    ∧ (judgeFrame f s).port.inService = s.port.inService
    ∧ (judgeFrame f s).port.progressRejected = s.port.progressRejected
    ∧ (judgeFrame f s).port.sdo = s.port.sdo := by
  unfold judgeFrame; (repeat' split) <;> simp

@[simp] theorem endFrame_frame (g : Gathered) (s : State) :
    (endFrame g s).pending = s.pending ∧ (endFrame g s).power = s.power
    ∧ (endFrame g s).settings = s.settings
    ∧ (endFrame g s).freeIndex = s.freeIndex
    ∧ (endFrame g s).exchange = s.exchange ∧ (endFrame g s).supply = s.supply
    ∧ (endFrame g s).gauge = s.gauge ∧ (endFrame g s).journal = s.journal
    ∧ (endFrame g s).context = s.context
    ∧ (endFrame g s).assessor = s.assessor
    ∧ (endFrame g s).line.joinTicks = s.line.joinTicks
    ∧ (endFrame g s).line.joinSlotDone = s.line.joinSlotDone
    ∧ (endFrame g s).line.receiver = s.line.receiver
    ∧ (endFrame g s).permits.doorOpen = s.permits.doorOpen
    ∧ (endFrame g s).permits.doorCount = s.permits.doorCount
    ∧ (endFrame g s).permits.doorRaw = s.permits.doorRaw
    ∧ (endFrame g s).permits.doorInput = s.permits.doorInput
    ∧ (endFrame g s).port.requests = s.port.requests
    ∧ (endFrame g s).port.inService = s.port.inService
    ∧ (endFrame g s).port.progressRejected = s.port.progressRejected
    ∧ (endFrame g s).port.sdo = s.port.sdo := by
  unfold endFrame; (repeat' split) <;> simp

@[simp] theorem foldl_endFrame_frame (gs : List Gathered) (s : State) :
    (gs.foldl (fun t g => endFrame g t) s).pending = s.pending
    ∧ (gs.foldl (fun t g => endFrame g t) s).power = s.power
    ∧ (gs.foldl (fun t g => endFrame g t) s).settings = s.settings
    ∧ (gs.foldl (fun t g => endFrame g t) s).freeIndex = s.freeIndex
    ∧ (gs.foldl (fun t g => endFrame g t) s).exchange = s.exchange
    ∧ (gs.foldl (fun t g => endFrame g t) s).supply = s.supply
    ∧ (gs.foldl (fun t g => endFrame g t) s).gauge = s.gauge
    ∧ (gs.foldl (fun t g => endFrame g t) s).journal = s.journal
    ∧ (gs.foldl (fun t g => endFrame g t) s).context = s.context
    ∧ (gs.foldl (fun t g => endFrame g t) s).assessor = s.assessor
    ∧ (gs.foldl (fun t g => endFrame g t) s).line.receiver = s.line.receiver
    ∧ (gs.foldl (fun t g => endFrame g t) s).port.requests = s.port.requests
    ∧ (gs.foldl (fun t g => endFrame g t) s).port.inService = s.port.inService := by
  induction gs generalizing s with
  | nil => simp
  | cons g rest ih => simpa using ih (endFrame g s)

@[simp] theorem receive_frame (samples : List Bool) (s : State) :
    (receive samples s).pending = s.pending ∧ (receive samples s).power = s.power
    ∧ (receive samples s).settings = s.settings ∧ (receive samples s).freeIndex = s.freeIndex
    ∧ (receive samples s).exchange = s.exchange ∧ (receive samples s).supply = s.supply
    ∧ (receive samples s).gauge = s.gauge ∧ (receive samples s).journal = s.journal
    ∧ (receive samples s).context = s.context ∧ (receive samples s).assessor = s.assessor
    ∧ (receive samples s).port.requests = s.port.requests
    ∧ (receive samples s).port.inService = s.port.inService := by
  unfold receive; dsimp only; split <;> simp

@[simp] theorem lineHeld_frame (s : State) :
    (lineHeld s).pending = s.pending ∧ (lineHeld s).power = s.power
    ∧ (lineHeld s).settings = s.settings ∧ (lineHeld s).freeIndex = s.freeIndex
    ∧ (lineHeld s).exchange = s.exchange ∧ (lineHeld s).supply = s.supply
    ∧ (lineHeld s).gauge = s.gauge ∧ (lineHeld s).journal = s.journal
    ∧ (lineHeld s).context = s.context ∧ (lineHeld s).assessor = s.assessor
    ∧ (lineHeld s).view = s.view ∧ (lineHeld s).line.duplicateMark = s.line.duplicateMark
    ∧ (lineHeld s).line.joinTicks = s.line.joinTicks
    ∧ (lineHeld s).line.joinSlotDone = s.line.joinSlotDone
    ∧ (lineHeld s).port.requests = s.port.requests
    ∧ (lineHeld s).port.inService = s.port.inService := by
  unfold lineHeld; (repeat' split) <;> simp

@[simp] theorem removeEntry_frame (station : Nat) (s : State) :
    (removeEntry station s).pending = s.pending ∧ (removeEntry station s).power = s.power
    ∧ (removeEntry station s).settings = s.settings ∧ (removeEntry station s).freeIndex = s.freeIndex
    ∧ (removeEntry station s).exchange = s.exchange ∧ (removeEntry station s).supply = s.supply
    ∧ (removeEntry station s).gauge = s.gauge ∧ (removeEntry station s).journal = s.journal
    ∧ (removeEntry station s).context = s.context ∧ (removeEntry station s).assessor = s.assessor
    ∧ (removeEntry station s).line.duplicateMark = s.line.duplicateMark
    ∧ (removeEntry station s).line.presenceRunning = s.line.presenceRunning
    ∧ (removeEntry station s).line.presenceTicks = s.line.presenceTicks
    ∧ (removeEntry station s).line.joinRunning = s.line.joinRunning
    ∧ (removeEntry station s).line.joinTicks = s.line.joinTicks
    ∧ (removeEntry station s).line.joinSlotDone = s.line.joinSlotDone
    ∧ (removeEntry station s).line.receiver = s.line.receiver
    ∧ (removeEntry station s).permits.doorOpen = s.permits.doorOpen
    ∧ (removeEntry station s).permits.doorCount = s.permits.doorCount
    ∧ (removeEntry station s).permits.doorRaw = s.permits.doorRaw
    ∧ (removeEntry station s).permits.doorInput = s.permits.doorInput
    ∧ (removeEntry station s).port.requests = s.port.requests
    ∧ (removeEntry station s).port.inService = s.port.inService
    ∧ (removeEntry station s).port.progressRejected = s.port.progressRejected
    ∧ (removeEntry station s).port.sdo = s.port.sdo := by
  unfold removeEntry; dsimp only; split <;> simp

@[simp] theorem holdEnd_frame (s : State) :
    (holdEnd s).pending = s.pending ∧ (holdEnd s).power = s.power ∧ (holdEnd s).settings = s.settings
    ∧ (holdEnd s).freeIndex = s.freeIndex ∧ (holdEnd s).supply = s.supply ∧ (holdEnd s).gauge = s.gauge
    ∧ (holdEnd s).journal.intervalRunning = s.journal.intervalRunning
    ∧ (holdEnd s).journal.intervalTicks = s.journal.intervalTicks
    ∧ (holdEnd s).journal.slots = s.journal.slots ∧ (holdEnd s).context.aged = s.context.aged
    ∧ (holdEnd s).context.stale = s.context.stale
    ∧ (holdEnd s).context.stillStarted = s.context.stillStarted
    ∧ (holdEnd s).context.stopReason = s.context.stopReason
    ∧ (holdEnd s).assessor.gaugeOff = s.assessor.gaugeOff ∧ (holdEnd s).view = s.view
    ∧ (holdEnd s).admission.shedSettle = s.admission.shedSettle
    ∧ (holdEnd s).admission.waiters = s.admission.waiters
    ∧ (holdEnd s).permits.doorCount = s.permits.doorCount
    ∧ (holdEnd s).permits.doorOpen = s.permits.doorOpen
    ∧ (holdEnd s).permits.doorRaw = s.permits.doorRaw
    ∧ (holdEnd s).permits.doorInput = s.permits.doorInput ∧ (holdEnd s).port.inService = s.port.inService
    ∧ (holdEnd s).port.progressRejected = s.port.progressRejected
    ∧ (holdEnd s).port.requests = s.port.requests ∧ (holdEnd s).port.sdo = s.port.sdo
    ∧ (holdEnd s).line.mode = s.line.mode ∧ (holdEnd s).line.duplicateMark = s.line.duplicateMark
    ∧ (holdEnd s).line.presenceRunning = s.line.presenceRunning
    ∧ (holdEnd s).line.presenceTicks = s.line.presenceTicks
    ∧ (holdEnd s).line.joinRunning = s.line.joinRunning ∧ (holdEnd s).line.joinTicks = s.line.joinTicks
    ∧ (holdEnd s).line.joinSlotDone = s.line.joinSlotDone
    ∧ (holdEnd s).line.receiver = s.line.receiver := by
  unfold holdEnd; (repeat' split) <;> simp

@[simp] theorem newPeriod_frame (s : State) :
    (newPeriod s).pending = s.pending ∧ (newPeriod s).power = s.power
    ∧ (newPeriod s).settings = s.settings ∧ (newPeriod s).freeIndex = s.freeIndex
    ∧ (newPeriod s).exchange = s.exchange ∧ (newPeriod s).supply = s.supply
    ∧ (newPeriod s).gauge = s.gauge ∧ (newPeriod s).journal = s.journal
    ∧ (newPeriod s).context = s.context ∧ (newPeriod s).assessor = s.assessor
    ∧ (newPeriod s).line = s.line ∧ (newPeriod s).view = s.view ∧ (newPeriod s).admission = s.admission
    ∧ (newPeriod s).permits.air = s.permits.air ∧ (newPeriod s).permits.doorCount = s.permits.doorCount
    ∧ (newPeriod s).permits.doorOpen = s.permits.doorOpen
    ∧ (newPeriod s).permits.doorRaw = s.permits.doorRaw
    ∧ (newPeriod s).permits.doorInput = s.permits.doorInput ∧ (newPeriod s).permits.drum = s.permits.drum
    ∧ (newPeriod s).port = s.port := by
  simp [newPeriod]

@[simp] theorem seeDoor_frame (s : State) :
    (seeDoor s).pending = s.pending ∧ (seeDoor s).power = s.power ∧ (seeDoor s).settings = s.settings
    ∧ (seeDoor s).freeIndex = s.freeIndex ∧ (seeDoor s).exchange = s.exchange
    ∧ (seeDoor s).supply = s.supply ∧ (seeDoor s).gauge = s.gauge ∧ (seeDoor s).journal = s.journal
    ∧ (seeDoor s).context.aged = s.context.aged ∧ (seeDoor s).context.base = s.context.base
    ∧ (seeDoor s).context.cycleState = s.context.cycleState
    ∧ (seeDoor s).context.freshRunning = s.context.freshRunning
    ∧ (seeDoor s).context.freshTicks = s.context.freshTicks ∧ (seeDoor s).context.plan = s.context.plan
    ∧ (seeDoor s).context.progress = s.context.progress ∧ (seeDoor s).context.stale = s.context.stale
    ∧ (seeDoor s).context.still = s.context.still
    ∧ (seeDoor s).context.stillStarted = s.context.stillStarted
    ∧ (seeDoor s).context.stillTicks = s.context.stillTicks
    ∧ (seeDoor s).context.stopReason = s.context.stopReason ∧ (seeDoor s).assessor = s.assessor
    ∧ (seeDoor s).line = s.line ∧ (seeDoor s).view = s.view ∧ (seeDoor s).admission = s.admission
    ∧ (seeDoor s).permits = s.permits ∧ (seeDoor s).port = s.port := by
  unfold seeDoor; split <;> simp

@[simp] theorem openDoor_frame (s : State) :
    (openDoor s).pending = s.pending ∧ (openDoor s).power = s.power ∧ (openDoor s).settings = s.settings
    ∧ (openDoor s).freeIndex = s.freeIndex ∧ (openDoor s).exchange = s.exchange
    ∧ (openDoor s).supply = s.supply ∧ (openDoor s).gauge = s.gauge ∧ (openDoor s).journal = s.journal
    ∧ (openDoor s).assessor = s.assessor ∧ (openDoor s).view = s.view
    ∧ (openDoor s).line.mode = s.line.mode ∧ (openDoor s).line.duplicateMark = s.line.duplicateMark
    ∧ (openDoor s).line.presenceRunning = s.line.presenceRunning
    ∧ (openDoor s).line.presenceTicks = s.line.presenceTicks
    ∧ (openDoor s).line.joinRunning = s.line.joinRunning
    ∧ (openDoor s).line.joinTicks = s.line.joinTicks
    ∧ (openDoor s).line.joinSlotDone = s.line.joinSlotDone
    ∧ (openDoor s).line.receiver = s.line.receiver ∧ (openDoor s).port.requests = s.port.requests
    ∧ (openDoor s).port.inService = s.port.inService
    ∧ (openDoor s).port.progressRejected = s.port.progressRejected ∧ (openDoor s).port.sdo = s.port.sdo := by
  unfold openDoor; dsimp only; split <;> simp

end Sys2Proof.Machine
end

