-- ==== Sys2Proof/Laws/Specs.lean ====
section
/-! SUPPORT. For each shared operation, one lemma that says once everything it can do. -/

namespace Sys2Proof.Machine

variable (s : State)

/-! ## Outcomes and transactions -/

theorem whenRunning_running {s : State} (f : State → State) (h : s.power = .running) :
    whenRunning f s = .next (f s) := by
  simp [whenRunning, h]

theorem whenRunning_other {s : State} (f : State → State) (h : s.power ≠ .running) :
    whenRunning f s = .next s := by
  simp [whenRunning, h]

theorem transaction_running {s : State} (k : TransactionKind) (rest : List Byte)
    (body : List Byte → State → State × List Byte) (h : s.power = .running) :
    transaction k (k.code :: rest) body s
      = shiftOut (k.code :: rest) (body rest s).2 (eventsWaiting s) (body rest s).1 := by
  simp [transaction, h]

/-- A transaction whose command byte is not its kind's, and any before the scan has ended, is void: SDO
alone changes. -/
theorem transaction_void {s : State} (k : TransactionKind) (mosi : List Byte)
    (body : List Byte → State → State × List Byte)
    (h : (s.power = .running ∧ mosi.head? ≠ some k.code) ∨ s.power = .scanning) :
    transaction k mosi body s = shiftOut mosi [] (eventsWaiting s) s := by
  obtain ⟨h, h1⟩ | h := h <;> simp_all [transaction]

theorem transaction_other {s : State} (k : TransactionKind) (mosi : List Byte)
    (body : List Byte → State → State × List Byte) (h : s.power ≠ .running) :
    ∃ out, transaction k mosi body s = { s with port := { s.port with sdo := out } } := by
  unfold transaction
  split
  · contradiction
  all_goals exact ⟨_, rfl⟩

/-! ## Settings and counts depend on their own fields alone -/

theorem cfg_congr {s t : State} (h : t.settings = s.settings) : cfg t = cfg s := by
  simp [cfg, h]

theorem heldLen_congr {s t : State} (h : t.admission.held = s.admission.held) :
    heldLen t = heldLen s := by
  simp [heldLen, h]

theorem heatCount_congr {s t : State} (h : t.admission.held = s.admission.held) :
    heatCount t = heatCount s := by
  simp [heatCount, heldLen, h]

theorem ownFeeder_congr {s t : State} (h : t.admission.held = s.admission.held)
    (hc : t.settings = s.settings) : ownFeeder t = ownFeeder s := by
  simp [ownFeeder, heldLen, cfg, h, hc]

theorem ownDuct_congr {s t : State} (h : t.admission.held = s.admission.held)
    (hc : t.settings = s.settings) : ownDuct t = ownDuct s := by
  simp [ownDuct, heldLen, cfg, h, hc]

theorem outstanding_congr {s t : State} (hr : t.port.requests = s.port.requests)
    (hi : t.port.inService = s.port.inService) (hp : t.admission.pending = s.admission.pending)
    (hw : t.admission.waiters = s.admission.waiters) : outstanding t = outstanding s := by
  simp [outstanding, hr, hi, hp, hw]

theorem prerequisiteHeld_congr {s t : State} (h : t.admission.held = s.admission.held) (n : Nat) :
    prerequisiteHeld t n = prerequisiteHeld s n := by
  simp [prerequisiteHeld, heldUnmarked, h]

theorem isPending_congr {s t : State} (h : t.admission.pending = s.admission.pending) (n : Nat) :
    isPending t n = isPending s n := by
  simp [isPending, h]

/-! ## Events -/

@[simp] theorem eventsWaiting_addEvent (e : Event) :
    eventsWaiting (addEvent e s) = eventsWaiting s + 1 := by
  simp [eventsWaiting]

@[simp] theorem outstanding_addEvent (e : Event) : outstanding (addEvent e s) = outstanding s :=
  outstanding_congr (by simp) (by simp) (by simp) (by simp)

@[simp] theorem outstanding_post (e : Event) : outstanding (post e s) = outstanding s :=
  outstanding_congr (by simp) (by simp) (by simp) (by simp)

theorem hasRoom_iff : hasRoom s = true ↔ outstanding s + eventsWaiting s < 16 :=
  decide_eq_true_iff

theorem post_cases (e : Event) :
    (hasRoom s = true ∧ post e s = addEvent e s) ∨
    (hasRoom s = false ∧ post e s = { s with port := { s.port with eventsLost := true } }) := by
  unfold post
  split <;> simp_all

theorem eventsWaiting_post (e : Event) (h : outstanding s + eventsWaiting s ≤ 16) :
    outstanding (post e s) + eventsWaiting (post e s) ≤ 16 := by
  obtain ⟨hr, h1⟩ | ⟨-, h1⟩ := post_cases s e
  · rw [hasRoom_iff] at hr; rw [h1]; simp; omega
  · rw [h1]; simpa [outstanding, eventsWaiting] using h

theorem completeService_none {s : State} (result : Result) (m : BitVec 24)
    (h : s.port.inService = none) : completeService result m s = s := by
  simp [completeService, h]

theorem completeService_some {s : State} {r : Request} (result : Result) (m : BitVec 24)
    (h : s.port.inService = some r) :
    completeService result m s =
      { s with port := { s.port with
          inService := none
          events := s.port.events ++ [.completion r.tag r.kind result r.stepByte m] } } := by
  simp [completeService, h, addEvent]

/-- A request is taken from the head of the queue and refused by the common tests or handed to its
owner; in every other case the state stays. -/
theorem takeIntoService_cases (isKind : Byte → Bool) (owner : Request → State → State) :
    takeIntoService isKind owner s = s ∨
    ∃ r rest s1, s.port.inService = none ∧ s.port.requests = r :: rest ∧ isKind r.kind = true
      ∧ s1 = { s with port := { s.port with requests := rest, inService := some r } }
      ∧ ((∃ x, commonRefusal s1 r = some x
            ∧ takeIntoService isKind owner s = completeService x 0 s1)
        ∨ (commonRefusal s1 r = none ∧ takeIntoService isKind owner s = owner r s1)) := by
  unfold takeIntoService
  split
  · rename_i r rest hi hr
    split
    · refine .inr ⟨r, rest, _, hi, hr, ‹_›, rfl, ?_⟩
      dsimp only
      split
      · exact .inl ⟨_, ‹_›, rfl⟩
      · exact .inr ⟨‹_›, rfl⟩
    · exact .inl rfl
  · exact .inl rfl

/-! ## The journal -/

theorem queueRecord_cases (b : Snapshot) :
    (s.journal.inFlight = none ∧ s.supply.supplyState ≠ .dormant
      ∧ queueRecord b s = startWrite b { s with journal := { s.journal with waiting := none } }) ∨
    ((s.journal.inFlight ≠ none ∨ s.supply.supplyState = .dormant)
      ∧ queueRecord b s = { s with journal := { s.journal with waiting := some b } }) := by
  unfold queueRecord
  split <;> simp_all
  tauto

theorem startWaiting_cases :
    startWaiting s = s ∨
    ∃ b, s.journal.inFlight = none ∧ s.journal.waiting = some b
      ∧ startWaiting s = startWrite b { s with journal := { s.journal with waiting := none } } := by
  unfold startWaiting
  split
  · exact .inr ⟨_, ‹_›, ‹_›, rfl⟩
  · exact .inl rfl

theorem writeRecord_eq (k : RecordKind) (why : Reason) :
    writeRecord k why s = queueRecord
      (snapshot k why s.exchange.newest? { s with exchange := s.exchange.take })
      { s with exchange := s.exchange.take } := rfl

/-! ## The transmit queue -/

theorem offer_cases (f : QueuedFrame) :
    offer f s = s
    ∨ (s.line.mode ≠ .off ∧ s.line.queue.length < 4
        ∧ offer f s = { s with line := { s.line with queue := s.line.queue ++ [f] } })
    ∨ (s.line.mode ≠ .off ∧ 4 ≤ s.line.queue.length
        ∧ offer f s = { s with line := replaceInFull f s.line }) := by
  unfold offer
  (repeat' split) <;> simp_all [Config.transmitLimit]

theorem withdrawFrame_cases (f : QueuedFrame) :
    (∃ a, s.line.attempt = some a ∧ a.frame.kind = .claim
      ∧ withdrawFrame f s
        = { s with line := { s.line with attempt := some { a with heldWithdrawn := some f } } }) ∨
    withdrawFrame f s = { s with line := removeClaim s.line } ∨
    withdrawFrame f s = offer f s := by
  unfold withdrawFrame
  (repeat' split) <;> simp_all

theorem replaceLast_none (f : QueuedFrame) (l : List QueuedFrame) (h : ∀ g ∈ l, g.replaceable = false) :
    replaceLast f l = none := by
  induction l with
  | nil => rfl
  | cons g rest ih => simp_all [replaceLast]

theorem replaceLast_last (f g : QueuedFrame) (before after : List QueuedFrame) (hg : g.replaceable = true)
    (ha : ∀ h ∈ after, h.replaceable = false) :
    replaceLast f (before ++ g :: after) = some (before ++ f :: after) := by
  induction before with
  | nil => simp [replaceLast, replaceLast_none f after ha, hg]
  | cons x rest ih => simp [replaceLast, ih]

theorem replaceable_iff (g : QueuedFrame) : g.replaceable = true ↔ g.kind = .presence ∨ g.kind = .released := by
  simp [QueuedFrame.replaceable]

/-- R99, in the words of the statements. -/
theorem offer_frameOffered (f : QueuedFrame) (hf : f.kind ≠ .presence) :
    FrameOffered f s.line (offer f s).line := by
  refine ⟨fun h => by simp [offer, h], fun h hl => by simp [offer, h, hf, Config.transmitLimit, hl], ?_⟩
  intro before g after h hl hq hg ha hb
  have full : offer f s = { s with line := replaceInFull f s.line } := by
    simp [offer, h, hf, Config.transmitLimit, Nat.not_lt.mpr hl]
  have rest : ∀ x ∈ after, x.replaceable = false := fun x hx => by
    simpa [QueuedFrame.replaceable] using ha x hx
  have gone := (replaceable_iff g).mpr hg
  simp only [full, replaceInFull, hq]
  cases before with
  | nil => simp [replaceLast_none f after rest, hb rfl, gone]
  | cons x xs => simp [replaceLast_last f g xs after gone rest]

/-- R100, in the words of the statements. -/
theorem withdrawFrame_frameWithdrawn (w : QueuedFrame) (hw : w.kind ≠ .presence) :
    FrameWithdrawn w s.line (withdrawFrame w s).line := by
  refine ⟨fun a h hk => by simp [withdrawFrame, h, hk], ?_, ?_⟩
  · rintro hn ⟨c, hc, hk⟩
    have some_claim : (s.line.queue.any fun g => g.kind == .claim) = true := by simpa using ⟨c, hc, hk⟩
    unfold withdrawFrame
    split
    · rename_i a ha
      simp [hn a ha, some_claim, removeClaim]
    · simp [some_claim, removeClaim]
  · intro hn hc
    have no_claim : (s.line.queue.any fun g => g.kind == .claim) = false := by simpa using hc
    have offered : withdrawFrame w s = offer w s := by
      unfold withdrawFrame
      split
      · rename_i a ha
        simp [hn a ha, no_claim]
      · simp [no_claim]
    exact offered ▸ offer_frameOffered s w hw

/-! ## The receiver -/

/-- What one sample can do: inside a character a bit is gathered or the character ends; outside one, an edge
begins a character or is ignored, and a recessive sample may end the frame. -/
theorem sample_cases (level : Bool) (r : Receiver) :
    (∃ bits, r.character = some bits ∧ r.sample level = (r.bitSample bits level, none))
    ∨ (r.character = none ∧ level = true ∧ r.sample level = r.quiet)
    ∨ (r.character = none ∧ level = false ∧ r.sample level = (r.edge, none)) := by
  unfold Receiver.sample
  split
  · exact .inl ⟨_, ‹_›, rfl⟩
  · cases level <;> simp_all

theorem run_append (xs ys : List Bool) (r : Receiver) :
    r.run (xs ++ ys) = (((r.run xs).1.run ys).1, (r.run xs).2 ++ ((r.run xs).1.run ys).2) := by
  induction xs generalizing r with
  | nil => simp [Receiver.run]
  | cons x rest ih => simp [Receiver.run, ih]

/-- The idle count never exceeds 12. -/
theorem sample_idleCount (level : Bool) (r : Receiver) :
    (r.sample level).1.idleCount ≤ 12 := by
  unfold Receiver.sample Receiver.bitSample Receiver.quiet Receiver.edge
  dsimp only [Config.idleLimit]
  (repeat' split) <;> simp_all [Config.frameEndIdle]

theorem run_idleCount (levels : List Bool) (r : Receiver) (h : r.idleCount ≤ 12) :
    (r.run levels).1.idleCount ≤ 12 := by
  induction levels generalizing r with
  | nil => exact h
  | cons x rest ih => exact ih _ (sample_idleCount x r)

/-- A frame that waits is the head frame, with no attempt in progress and its sending permitted. -/
theorem waitingFrame_some {s : State} {f : QueuedFrame} (h : waitingFrame s = some f) :
    s.line.attempt = none ∧ s.line.queue.head? = some f ∧ sendPermitted f s = true := by
  unfold waitingFrame at h
  split at h
  · split at h <;> simp_all
  · cases h

theorem lineHeld_cases :
    lineHeld s = s ∨
    ∃ f, waitingFrame s = some f ∧ 10 ≤ s.line.receiver.heldTicks
      ∧ lineHeld s = failHead f { s with line := { s.line with
          receiver := { s.line.receiver with heldTicks := 0 } } } := by
  unfold lineHeld
  split
  · split
    · exact .inr ⟨_, ‹_›, by simpa [Config.heldTicks] using ‹_›, rfl⟩
    · exact .inl rfl
  · exact .inl rfl

/-- What a failed attempt of the head frame does, by the line mode and the failure count. -/
theorem failHead_cases (f : QueuedFrame) :
    failHead f s = { s with line := { s.line with failures := s.line.failures + 1 } }
    ∨ (s.line.mode = .off ∧ failHead f s = dropHead s)
    ∨ ((s.line.mode = .solo .lineFault ∨ s.line.mode = .solo .duplicateStation)
        ∧ failHead f s = countAsSent f s)
    ∨ (s.line.mode ≠ .off
        ∧ failHead f s = lineFault { s with line := { s.line with failures := 8 } }) := by
  unfold failHead
  (repeat' split) <;> simp_all [Config.failureLimit]

theorem endFrame_cases (g : Gathered) :
    endFrame g s = s ∨
    ∃ f, receivedFrame g.chars = some f ∧ s.line.mode ≠ .off ∧ g.own = false
      ∧ endFrame g s = judgeFrame f s := by
  unfold endFrame
  split
  · exact .inl rfl
  · split
    · exact .inr ⟨_, ‹_›, by simp_all, by simp_all, rfl⟩
    · exact .inl rfl

theorem receive_cases (samples : List Bool) :
    receive samples s = s ∨
    (watching s.line = true ∧ s.line.attempt = none
      ∧ receive samples s = (s.line.receiver.run samples).2.foldl (fun t g => endFrame g t)
          { s with line := { s.line with receiver := (s.line.receiver.run samples).1 } }) := by
  unfold receive
  split
  · exact .inr ⟨by simp_all, by simp_all, rfl⟩
  · exact .inl rfl

/-! ## The gauge and the plan -/

/-- A conversion abandoned puts the timer that started it back to 0, and leaves every count. -/
theorem abandon_cases (g : Gauge) :
    (g.converting = false ∧ g.abandon = g) ∨
    (g.converting = true ∧ g.abandon = { g with
      converting := false
      chargingTicks := if g.gaugeState = .charging then 0 else g.chargingTicks
      refreshTicks := if g.gaugeState = .armed then 0 else g.refreshTicks }) := by
  unfold Gauge.abandon
  split
  · exact .inr ⟨‹_›, rfl⟩
  · exact .inl ⟨by simp_all, rfl⟩

theorem accruedStill_cases :
    accruedStill s = s.context.still ∨
    (stillRuns s = true ∧ 100 ≤ s.context.stillTicks ∧ accruedStill s = satAdd s.context.still 1) := by
  unfold accruedStill
  split
  · rename_i h
    rw [Bool.and_eq_true, decide_eq_true_eq] at h
    exact .inr ⟨h.1, h.2, rfl⟩
  · exact .inl rfl

theorem guardTest_cases :
    (guardExpired s = false ∧ guardTest s = s) ∨ (guardExpired s = true ∧ guardTest s = guardExpiry s) := by
  unfold guardTest
  split <;> simp_all

/-! ## Claims and releases -/

theorem tryClaim_cases :
    tryClaim s = s ∨
    ∃ p rest, s.admission.claim = .unannounced ∧ s.admission.pending = p :: rest
      ∧ withdrawnUnderAttempt s = false
      ∧ admissionPasses s p.step (arbOf s (urgency s)) = true
      ∧ tryClaim s = offer (stepFrame (cfg s) .claim p.step)
          { s with admission := { s.admission with claim := .sending p.step (urgency s) } } := by
  unfold tryClaim
  split
  · rename_i p rest hc hp
    split
    · exact .inl rfl
    · dsimp only
      split
      · exact .inr ⟨p, rest, hc, hp, by simp_all, ‹_›, rfl⟩
      · exact .inl rfl
  · exact .inl rfl

theorem withdrawClaim_cases :
    (announcedStep s = none ∧ withdrawClaim s = s) ∨
    ∃ n, announcedStep s = some n
      ∧ withdrawClaim s = withdrawFrame (stepFrame (cfg s) .withdrawn n)
          { s with admission := { s.admission with
              claim := .unannounced
              testAtTick := s.admission.testAtTick || isPending s n } } := by
  unfold withdrawClaim
  split
  · exact .inl ⟨‹_›, rfl⟩
  · exact .inr ⟨_, ‹_›, rfl⟩

/-- R127, in the words of the statements. -/
theorem withdrawClaim_withdrawalFrame : WithdrawalFrame s s.line (withdrawClaim s).line := by
  obtain ⟨h, e⟩ | ⟨n, h, e⟩ := withdrawClaim_cases s
  · exact ⟨fun _ => by rw [e], fun n hn => by rw [h] at hn; cases hn⟩
  · refine ⟨fun hn => absurd (hn.symm.trans h) nofun, fun m hm => ?_⟩
    rw [h] at hm
    cases hm
    rw [e]
    exact withdrawFrame_frameWithdrawn { s with admission := { s.admission with
      claim := .unannounced, testAtTick := s.admission.testAtTick || isPending s n } } _ nofun

theorem withdrawClaim_claim : (withdrawClaim s).admission.claim = .unannounced := by
  obtain ⟨h, h1⟩ | ⟨n, -, h1⟩ := withdrawClaim_cases s
  · rw [h1]
    revert h
    unfold announcedStep
    split <;> simp_all
  · rw [h1]
    obtain ⟨a, -, -, h2⟩ | h2 | h2 := withdrawFrame_cases
      { s with admission := { s.admission with
          claim := .unannounced
          testAtTick := s.admission.testAtTick || isPending s n } } (stepFrame (cfg s) .withdrawn n)
    all_goals simp

theorem finishWaiters_eq :
    finishWaiters s = { s with
      admission := { s.admission with
        waiters := s.admission.waiters.filter (fun w => !decide (heldLen s < w.step)) }
      port := { s.port with
        events := s.port.events ++ (s.admission.waiters.filter (fun w => heldLen s < w.step)).map
          fun w => .completion w.tag RequestKind.dropStep.code .done (byte8 w.step) 0 } } := by
  simp [finishWaiters]

theorem completeAllPending_eq (result : Result) :
    completeAllPending result s = { s with
      admission := { s.admission with pending := [] }
      port := { s.port with
        events := s.port.events ++ s.admission.pending.map
          fun p => .completion p.tag RequestKind.requestStep.code result (byte8 p.step) 0 } } := by
  simp [completeAllPending]

theorem settleChain_eq :
    settleChain s = withdrawUnfounded { s with
      admission := { s.admission with
        pending := (splitChain (prerequisiteHeld s) s.admission.pending []).1 }
      port := { s.port with
        events := s.port.events ++ (splitChain (prerequisiteHeld s) s.admission.pending []).2.map
          fun p => .completion p.tag RequestKind.requestStep.code .cancelled (byte8 p.step) 0 } } := by
  simp [settleChain]

theorem releaseAtOnce_cases (low : Nat) :
    (heldLen s < low ∧ releaseAtOnce low s = s) ∨
    (low ≤ heldLen s
      ∧ releaseAtOnce low s = offer (releasedFrame (cfg s) low (heldLen s)) (takeAway low s)) := by
  unfold releaseAtOnce
  split
  · exact .inr ⟨‹_›, rfl⟩
  · exact .inl ⟨by omega, rfl⟩

theorem takeAway_held (low : Nat) :
    (takeAway low s).admission.held = s.admission.held.take (low - 1) := by
  simp [takeAway]

theorem retestClaim_cases :
    retestClaim s = s ∨ retestClaim s = withdrawClaim s ∨ retestClaim s = tryClaim s := by
  unfold retestClaim
  (repeat' split) <;> simp

theorem overcommitTest_cases :
    overcommitTest s = s ∨
    (feederOvercommitted s = true ∧ 3 ≤ heldLen s ∧ highestCandidate s = true
      ∧ overcommitTest s = shed s) := by
  unfold overcommitTest
  split <;> simp_all

/-! ## Time -/

theorem idle_cases :
    idle s = s ∨ (∃ c, idle s = { s with pending := [c] })
    ∨ (s.power = .running ∧ immediate s = none ∧ idle s = tick s) := by
  unfold idle
  (repeat' split) <;> simp_all

/-! ## The tests, in the words of the statements -/

theorem fits_iff (step a : Nat) : fits s step a = true ↔ Fits s step a := by
  have duct : stepDuct (cfg s) 2 = (cfg s).airDuct := rfl
  unfold fits Fits committedFeeder committedDuct peersFeeder peersDuct
  by_cases h : step = 2
  · simp [h] at duct ⊢
    omega
  · simp [h]
    omega

theorem elapsed_iff (timer : Option Nat) (limit : Nat) :
    elapsed timer limit = true ↔ ∀ n, timer = some n → limit ≤ n := by
  cases timer <;> simp [elapsed]

theorem underCap_iff (step : Nat) :
    underCap s step = true ↔ ((∃ cause, s.line.mode = .solo cause) → step ≤ 2 + (cfg s).soloCap) := by
  cases h : s.line.mode <;> simp [underCap, LineMode.isSolo, h]

theorem claims_iff (m : LineMode) : m.claims = true ↔ m ≠ .off ∧ m ≠ .joining := by
  cases m <;> simp [LineMode.claims]

theorem admissionPasses_iff (step a : Nat) :
    admissionPasses s step a = true ↔ TestPasses s step a := by
  by_cases h : step ≤ 2
  · have h3 : ¬ 3 ≤ step := by omega
    simp only [admissionPasses, TestPasses, h, h3, if_true, Bool.and_eq_true, claims_iff, prerequisiteHeld,
      Bool.or_eq_true, decide_eq_true_eq, fits_iff, elapsed_iff, underCap_iff, Config.ticksPerSecond,
      true_imp_iff, false_imp_iff]
    tauto
  · have h3 : 3 ≤ step := by omega
    simp only [admissionPasses, TestPasses, h, h3, if_false, Bool.and_eq_true, claims_iff, prerequisiteHeld,
      Bool.or_eq_true, decide_eq_true_eq, fits_iff, elapsed_iff, underCap_iff, Config.ticksPerSecond,
      true_imp_iff, false_imp_iff]
    tauto

theorem mustShed_iff :
    (feederOvercommitted s && decide (3 ≤ heldLen s) && highestCandidate s) = true ↔ MustShed s := by
  unfold feederOvercommitted highestCandidate MustShed peersFeeder PeerEntry.arb arbOf
  simp only [Bool.and_eq_true, decide_eq_true_eq, List.all_eq_true, List.mem_filter, and_imp, and_assoc]

end Sys2Proof.Machine
end

