-- ==== Sys2Proof/Tests/Slice0.lean ====
section
/-! SUPPORT. Tests: ill-formed operands refused, worked values of the manual, and for each statement a
concrete state that meets its hypotheses. -/

open Sys2Proof Sys2Proof.Machine

namespace Sys2Proof.Tests

/-! ## States to test on -/

/-- The settings of the manual's walkthroughs at station 2 of a bank of 3, with a solo heat cap of 1. -/
def wash : Settings :=
  ⟨2, 3, 40, 15, 90, 240, 560, 300, 600, 6, 1200, 600, 180, 10, 5, 3, 5, 10, 1⟩

/-- A configured part on mains in a line mode, with no cycle. -/
def part (mode : LineMode) : State :=
  { State.reset with
    power := .running
    supply := { State.reset.supply with supplyState := .onMains }
    gauge := { Gauge.initial with
      gaugeState := .armed, n0 := 24000, startup := .count 3960, logRatio := .ratio 661 }
    line := { Line.initial with mode := mode }
    settings := some wash }

/-- Cycle 1,204 of the walkthroughs in a phase. -/
def cycle (phase : Phase) : Progress := ⟨1204, phase, 900, 600, 900⟩

/-- A provisional plan to resume heating. -/
def plan : Plan :=
  ⟨.run .resumeHeat, .gauge, .seconds 1549, some 1549, some 580, ⟨some 1480, some 600, none, some 900⟩,
    false, false, false, some 8, .provisional⟩

/-- The part with its cycle in a state. -/
def inState (c : CycleState) (s : State) : State :=
  { s with context := { s.context with
      cycleState := c
      progress := some (cycle .heat)
      base := 8
      stopReason := if c = .stopped then some 7 else none
      plan := if c = .interrupted ∨ c = .resuming then some plan else none
      stillStarted := true
      freshRunning := decide (c = .running) } }

/-- The part with the first steps held, those after the first `plain` of them with a release mark. -/
def holds (n plain : Nat) (s : State) : State :=
  { s with
    admission := { s.admission with
      held := List.replicate plain ⟨1, false⟩ ++ List.replicate (n - plain) ⟨1, true⟩ }
    permits := { s.permits with
      drum := decide (1 ≤ n), air := decide (2 ≤ n), duty := n - 2,
      period := if n ≤ 2 then none else some 0 } }

/-- The part with one pending request for a step. -/
def asks (step : Nat) (s : State) : State :=
  { s with admission := { s.admission with pending := [⟨step, 9, 0, 0⟩] } }

/-- The part with a claim. -/
def claiming (c : Claim) (s : State) : State := { s with admission := { s.admission with claim := c } }

/-- A request record of a kind with tag 5. -/
def request (k : RequestKind) (params : List Byte) : Request := ⟨k.code, 5, params⟩

/-- The part with one request waiting in its queue. -/
def sentTo (k : RequestKind) (params : List Byte) (s : State) : State :=
  { s with port := { s.port with requests := [request k params] } }

/-- The part with this many events waiting. -/
def withEvents (n : Nat) (s : State) : State :=
  { s with port := { s.port with events := List.replicate n (.mainsBack 4) } }

/-- The part with an attempt of the frame at the head of its queue. -/
def attempting (f : QueuedFrame) (held : Option QueuedFrame) (s : State) : State :=
  { s with line := { s.line with
      queue := [f]
      attempt := some ⟨f, (fillFrame f s).bytes, held⟩ } }

/-- The part with one frame queued. -/
def queued (f : QueuedFrame) (s : State) : State := { s with line := { s.line with queue := [f] } }

/-- The part in another power state. -/
def powered (p : Power) (s : State) : State := { s with power := p }

/-- The part in another supply state, with its line off. -/
def supplied (x : SupplyState) (s : State) : State :=
  { s with supply := { s.supply with supplyState := x }, line := Line.initial }

/-- A CLAIM and a WITHDRAWN for HEAT1, and the frame of the loss sequence. -/
def claimFrame : QueuedFrame := ⟨.claim, 3, 60, 0, false⟩
def withdrawnFrame : QueuedFrame := ⟨.withdrawn, 3, 60, 0, false⟩
def leavingFrame : QueuedFrame := ⟨.released, 0, 55, 90, true⟩
def presence : QueuedFrame := ⟨.presence, 0, 0, 0, false⟩

/-- A peer of station 6 that holds DRUM and AIR. -/
def peer : PeerEntry := ⟨6, .present, .running, 55, 90, 2, 12, none, 0⟩

/-- The part with a view. -/
def sees (view : List PeerEntry) (s : State) : State := { s with view := view }

/-- The levels of a frame, bit time by bit time. -/
def levels (f : Frame) : List Bool := frameLevels f.bytes

/-- The part with its receiver at an idle count, and with a held-line time. -/
def idleFor (n : Nat) (s : State) : State :=
  { s with line := { s.line with receiver := { s.line.receiver with idleCount := n } } }
def heldFor (n : Nat) (s : State) : State :=
  { s with line := { s.line with receiver := { s.line.receiver with heldTicks := n } } }

/-- The part at its third tick without a pulse, and with its settle count at 50. -/
def unseen (s : State) : State := { s with supply := { s.supply with absence := 3 } }
def settled (s : State) : State := { s with supply := { s.supply with settle := 50, settleOpen := true } }

/-- The part with its still timer at its hundredth tick. -/
def stillDue (s : State) : State := { s with context := { s.context with stillTicks := 100 } }

/-- A TAKEN of DRUM by a station (A 54 is station 6 at urgency 12). -/
def takenBy (arb : Nat) : Frame := ⟨arb, .taken, .running, 40, 0, 1, 1, 40, 0⟩

/-- What a command makes of a state. -/
def after (c : Instr) (s : State) : State :=
  match exec c s with
  | .next t => t
  | .fault _ => s
  | .refused _ => s

/-! ## Checkers of the invariants -/

theorem served_of {k : RequestKind} {s : State} {r : Request} {rest : List Request}
    (h : s.power = .running ∧ s.port.inService = none ∧ s.port.requests = r :: rest ∧ r.kind = k.code
      ∧ (s.supply.supplyState = .starting ∨ s.supply.supplyState = .onMains)
      ∧ (k ≠ .configure → s.settings ≠ none)) : Served k s r rest :=
  ⟨h.1, h.2.1, h.2.2.1, h.2.2.2.1, h.2.2.2.2.1, h.2.2.2.2.2⟩

/-- The Progress Exchange checked. -/
def exchangeOk (s : State) : Bool :=
  decide (s.exchange.count Buffer.isHostWrite = 1) && decide (s.exchange.count Buffer.isNewest ≤ 1)
    && decide (s.exchange.count Buffer.isJournalHeld ≤ 1)
    && (match s.exchange.newest? with
      | none => true
      | some p => decide (s.power ≠ .scanning ∧ s.context.cycleState = .running
          ∧ s.context.progress = some p))

theorem exchange_of {s : State} (h : exchangeOk s = true) : ExchangeSound s := by
  simp only [exchangeOk, Bool.and_eq_true, decide_eq_true_eq] at h
  obtain ⟨⟨⟨h1, h2⟩, h3⟩, h4⟩ := h
  refine ⟨h1, h2, h3, fun p hp => ?_⟩
  rw [hp] at h4
  exact of_decide_eq_true h4

/-- The held steps, the permits and the door checked. -/
def loadsOk (s : State) : Bool :=
  decide (heldLen s ≤ 6 ∧ (∀ h ∈ s.admission.held.take 2, h.mark = false)
    ∧ s.admission.held.Pairwise (fun h k => h.mark = true → k.mark = true)
    ∧ s.admission.pending.Pairwise (fun p q => p.step < q.step)
    ∧ (∀ p ∈ s.admission.pending, heldLen s < p.step ∧ p.step ≤ 6)
    ∧ (s.power ≠ .resetHeld →
        s.permits.drum = decide (1 ≤ heldLen s) ∧ s.permits.air = decide (2 ≤ heldLen s))
    ∧ (s.power = .resetHeld → s.permits.drum = false ∧ s.permits.air = false ∧ s.permits.heat = false)
    ∧ (s.permits.heat = true → s.permits.drum = true ∧ s.permits.air = true
        ∧ s.permits.doorOpen = false ∧ s.permits.blank = false ∧ 1 ≤ s.permits.duty)
    ∧ s.permits.duty ≤ heatCount s ∧ (1 ≤ heatCount s → 1 ≤ s.permits.duty)
    ∧ (s.permits.period = none ↔ s.permits.duty = 0)
    ∧ (s.permits.blank = true → s.permits.duty ≠ 0)
    ∧ (s.permits.doorOpen = true → s.admission.held = [] ∧ s.admission.pending = []))

theorem loads_of {s : State} (h : loadsOk s = true) : LoadsSound s := by
  obtain ⟨a, b, c, d, e, f, g, i, j, k, l, m, n⟩ := of_decide_eq_true h
  exact ⟨⟨a, b, c, d, e⟩, ⟨f, g, i, j, k, l, m, n⟩⟩

/-- A view entry's ranges checked. -/
def entryOk (own : Nat) (e : PeerEntry) : Bool :=
  decide ((e.number < 16 ∧ e.number ≠ own)
    ∧ (e.feeder ≤ 4095 ∧ e.duct ≤ 4095 ∧ e.prefixLen ≤ 6 ∧ e.urgency ≤ 15)
    ∧ (e.status ≠ .present → e.claim = none))

/-- The attempt checked against the queue. -/
def attemptOk (l : Line) : Bool :=
  match l.attempt with
  | none => true
  | some a => decide (l.queue.head? = some a.frame ∧ (a.heldWithdrawn ≠ none → a.frame.kind = .claim))

/-- The receiver's counts checked. -/
def receiverOk (r : Receiver) : Bool :=
  decide (r.idleCount ≤ 12 ∧ r.chars.length ≤ 12 ∧ r.heldTicks ≤ 10)
  && (match r.character with
    | none => true
    | some bits => decide (r.chars.length < 12 ∧ bits.length ≤ 8))

theorem receiver_of {r : Receiver} (h : receiverOk r = true) : r.Sound := by
  simp only [receiverOk, Bool.and_eq_true, decide_eq_true_eq] at h
  obtain ⟨⟨h1, h2, h3⟩, h4⟩ := h
  refine ⟨h1, h2, fun bits hb => ?_, h3⟩
  rw [hb] at h4
  exact of_decide_eq_true h4

/-- The line and the view checked. -/
def lineOk (s : State) : Bool :=
  decide ((s.line.mode ≠ .off → s.supply.supplyState = .onMains ∧ s.settings.isSome = true)
    ∧ (s.line.mode = .off → s.view = [])
    ∧ (s.line.mode = .off → s.line.queue.length ≤ 1 ∧ ∀ f ∈ s.line.queue, f.leaving = true)
    ∧ s.line.queue.length ≤ 4 ∧ attemptOk s.line = true ∧ s.line.failures ≤ 8
    ∧ s.view.Pairwise (fun e f => e.number < f.number)
    ∧ (∀ e ∈ s.view, entryOk (cfg s).station e = true)
    ∧ receiverOk s.line.receiver = true)

theorem line_of {s : State} (h : lineOk s = true) : LineSound s := by
  obtain ⟨a, b, c, d, e, f, g, i, j⟩ := of_decide_eq_true h
  refine ⟨a, b, c, d, ?_, ?_, f, g, ?_, receiver_of j⟩
  · intro x hx; rw [attemptOk, hx] at e; exact (of_decide_eq_true e).1
  · intro x hx; rw [attemptOk, hx] at e; exact (of_decide_eq_true e).2
  · intro x hx
    obtain ⟨p, q, r⟩ := of_decide_eq_true (i x hx)
    exact ⟨p, q, r⟩

/-- The claim checked. -/
def claimOk (s : State) : Bool :=
  (match announcedStep s with
    | none => true
    | some n => decide ((s.admission.pending.head?.map (·.step)) = some n ∧ prerequisiteHeld s n = true
        ∧ s.line.mode.claims = true))
  && decide ((s.admission.held ≠ [] → s.line.mode.claims = true)
    ∧ (s.admission.held ≠ [] → s.context.cycleState = .running)
    ∧ (s.admission.pending ≠ [] → s.context.cycleState = .running ∨ s.context.cycleState = .resuming)
    ∧ (s.power = .scanning → s.admission.held = [] ∧ s.admission.pending = [])
    ∧ ∀ p ∈ s.admission.pending, prerequisiteHeld s p.step = true ∨ isPending s (p.step - 1) = true)

theorem claim_of {s : State} (h : claimOk s = true) : ClaimSound s := by
  simp only [claimOk, Bool.and_eq_true] at h
  obtain ⟨h1, h2⟩ := h
  obtain ⟨h2, h3, h4, h5, h6⟩ := of_decide_eq_true h2
  refine ⟨fun n hn => ?_, h2, h3, h4, h5, h6⟩
  rw [hn] at h1
  exact of_decide_eq_true h1

/-- The cycle checked. -/
def cycleOk (s : State) : Bool :=
  decide ((s.context.cycleState = .running → s.context.still = 0)
    ∧ (s.context.cycleState = .noCycle →
      s.context.progress = none ∧ s.context.still = 0 ∧ s.context.base = 0 ∧ s.context.stale = false
        ∧ s.context.aged = false ∧ s.context.doorSeen = false)
    ∧ (s.context.cycleState ≠ .noCycle → s.context.progress.isSome = true)
    ∧ (s.context.stopReason.isSome = true ↔ s.context.cycleState = .stopped)
    ∧ (s.context.plan.isSome = true → s.context.cycleState = .interrupted
        ∨ s.context.cycleState = .resuming ∨ s.context.cycleState = .stopped)
    ∧ (s.context.cycleState = .resuming → s.context.plan.isSome = true)
    ∧ (s.assessor.awaiting = true →
      s.power ≠ .scanning ∧ s.context.cycleState = .interrupted ∧ s.context.plan.isSome = true)
    ∧ (s.context.cycleState = .running → s.assessor.estimateMark = false))

theorem cycle_of {s : State} (h : cycleOk s = true) : CycleSound s := by
  obtain ⟨a, b, c, d, e, f, g, i⟩ := of_decide_eq_true h
  exact ⟨a, b, c, d, e, f, g, i⟩

/-- The receiver between frames. -/
theorem rests_of {r : Receiver} (h : r.level = true ∧ r.character = none ∧ r.chars = [] ∧ r.long = false
    ∧ r.own = false) : r.AtRest := ⟨h.1, h.2.1, h.2.2.1, h.2.2.2.1, h.2.2.2.2⟩

/-- The admission test, and the test of who must shed, by the functions that make them. -/
theorem passes_of {s : State} {n a : Nat} (h : admissionPasses s n a = true) : TestPasses s n a :=
  (admissionPasses_iff s n a).mp h
theorem fails_of {s : State} {n a : Nat} (h : admissionPasses s n a = false) : ¬ TestPasses s n a :=
  fun t => by rw [(admissionPasses_iff s n a).mpr t] at h; cases h
theorem sheds_of {s : State}
    (h : (feederOvercommitted s && decide (3 ≤ heldLen s) && highestCandidate s) = true) : MustShed s :=
  (mustShed_iff s).mp h
theorem keeps_of {s : State}
    (h : (feederOvercommitted s && decide (3 ≤ heldLen s) && highestCandidate s) = false) : ¬ MustShed s :=
  fun t => by rw [(mustShed_iff s).mpr t] at h; cases h

/-! ## Operands (R91, R94, R95, R106, R119, R152) -/

theorem test_wellFormed_arbitrationBit :
    (Instr.arbitrationLost 10).wellFormed = false ∧ (Instr.arbitrationLost 9).wellFormed = true := by decide
theorem test_wellFormed_frameBit :
    (Instr.bitError 120).wellFormed = false ∧ (Instr.bitError 119).wellFormed = true := by decide
theorem test_wellFormed_samples :
    (Instr.frameReceived [] 0).wellFormed = false ∧ (Instr.frameReceived [true] 0).wellFormed = true
      ∧ (Instr.frameReceived [] 1).wellFormed = true := by decide
theorem test_wellFormed_commandByte :
    (Instr.sendRequest []).wellFormed = false ∧ (Instr.takeEvent []).wellFormed = false
      ∧ (Instr.sendRequest [0x5A]).wellFormed = false ∧ (Instr.takeEvent [0x3C]).wellFormed = false
      ∧ (Instr.writeProgress [0xC3]).wellFormed = false ∧ (Instr.readStatus [0x96]).wellFormed = false
      ∧ (Instr.sendRequest [0x3C]).wellFormed = true ∧ (Instr.takeEvent [0x5A]).wellFormed = true
      ∧ (Instr.writeProgress [0x96]).wellFormed = true ∧ (Instr.readStatus [0xC3]).wellFormed = true
      ∧ (Instr.readStatus [0]).wellFormed = true := by decide
theorem test_wellFormed_silentPeer :
    (Instr.peerSilent 16).wellFormed = false ∧ (Instr.peerSilent 15).wellFormed = true := by decide
theorem test_wellFormed_removedPeer :
    (Instr.peerRemoved 16).wellFormed = false ∧ (Instr.peerRemoved 15).wellFormed = true := by decide
theorem test_wellFormed_waitingStep :
    (Instr.waitingAgeSecond 0).wellFormed = false ∧ (Instr.waitingAgeSecond 7).wellFormed = false
      ∧ (Instr.waitingAgeSecond 6).wellFormed = true := by decide

/-! ## Steps -/

theorem witness_StepRunsTheFrontCommand :
    ({ part .alone with pending := [.doorClosing, .dropout] } : State).pending = [.doorClosing, .dropout] := rfl

/-- Where the Timebase does something before a tick passes: the join slot of station 2, a frame that may be
sent, a write under way. -/
def slotDue : State :=
  { part .joining with line := { (part .joining).line with joinRunning := true, joinTicks := 20 } }
def ready : State := idleFor 12 (queued claimFrame (part .banked))

theorem witness_EmptyQueueIsTheTimebase :
    (powered .unpowered (part .off)).power = .unpowered ∧ State.reset.power = .scanning
    ∧ ((powered .resetHeld (part .off)).power = .resetHeld
        ∧ (powered .resetHeld (part .off)).journal.inFlight = none)
    ∧ (sentTo .hostStop [] (part .alone)).port.inService = none
    ∧ (slotDue.line.mode = .joining ∧ slotDue.line.joinRunning = true ∧ slotDue.line.joinSlotDone = false
        ∧ (cfg slotDue).station * 10 ≤ slotDue.line.joinTicks)
    ∧ (waitingFrame ready ≠ none ∧ ready.line.receiver.idleCount = 12 ∧ ready.line.mode ≠ .joining)
    ∧ (waitingFrame (idleFor 11 ready) ≠ none ∧ (idleFor 11 ready).line.receiver.idleCount < 12)
    ∧ ((part .alone).power = .running ∧ (part .alone).pending = [] ∧ (part .alone).port.requests = []
        ∧ waitingFrame (part .alone) = none ∧ (part .alone).journal.inFlight = none) := by
  decide

theorem witness_EveryCommandAnswers :
    exec .dropout (part .alone) = .next (after .dropout (part .alone)) ∧ (part .alone).settings ≠ none := by
  exact ⟨rfl, by decide⟩

theorem witness_NothingRunsBeforeTheScanEnds :
    needsRunning .configure = true ∧ State.reset.power ≠ .running ∧ State.reset.power = .scanning
    ∧ (powered .resetHeld (part .off)).power = .resetHeld
    ∧ (part .alone).power = .running ∧ (0 : Byte) ≠ 0x3C := by decide

/-- R152: a transaction of any other command byte is void: the event count, then 00h, and no event taken. -/
theorem test_takeEvent_void :
    (after (.takeEvent (List.replicate 25 0)) (withEvents 2 (part .alone))).port.sdo = 2 :: List.replicate 24 0
    ∧ (after (.takeEvent (List.replicate 25 0)) (withEvents 2 (part .alone))).port.events.length = 2 := by
  decide

/-! ## Invariants -/

/-- A part in mid-cycle: three steps held, HEAT2 pending with its claim announced, one peer. -/
def busy : State :=
  sees [peer] (claiming (.sending 4 8) (asks 4 (holds 3 3 (inState .running (part .banked)))))

theorem busy_loads : LoadsSound busy := loads_of (by decide)
theorem busy_line : LineSound busy := line_of (by decide)
theorem busy_claim : ClaimSound busy := claim_of (by decide)
theorem busy_exchange : ExchangeSound busy := exchange_of (by decide)
theorem busy_cycle : CycleSound busy := cycle_of (by decide)

theorem busy_steps : ∃ t, step busy = .next t := ⟨_, rfl⟩

theorem witness_LimitsKept : WithinLimits busy ∧ ∃ t, step busy = .next t :=
  ⟨by unfold WithinLimits; decide, busy_steps⟩
theorem witness_ExchangeKept : ExchangeSound busy ∧ ∃ t, step busy = .next t := ⟨busy_exchange, busy_steps⟩
theorem witness_CycleKept : CycleSound busy ∧ ∃ t, step busy = .next t := ⟨busy_cycle, busy_steps⟩

/-- A record waits behind one in flight. -/
def writing : State :=
  { busy with journal := { busy.journal with
      nextSlot := 1
      nextSeq := 2
      inFlight := some ⟨0, makeRecord 1 (recordOf .opened .zero busy.context (cycle .heat) busy.gauge)⟩
      waiting := some (recordOf .progress .zero busy.context (cycle .heat) busy.gauge) } }

theorem witness_WriterKept : WriterSound writing ∧ writing.journal.waiting ≠ none ∧ ∃ t, step writing = .next t :=
  ⟨fun _ => by decide, by decide, _, rfl⟩
theorem witness_LoadsKept : LoadsSound busy ∧ ∃ t, step busy = .next t := ⟨busy_loads, busy_steps⟩
theorem witness_LineKept : LineSound busy ∧ ∃ t, step busy = .next t := ⟨busy_line, busy_steps⟩
theorem witness_ClaimKept :
    LoadsSound busy ∧ LineSound busy ∧ CycleSound busy ∧ ClaimSound busy ∧ ∃ t, step busy = .next t :=
  ⟨busy_loads, busy_line, busy_cycle, busy_claim, busy_steps⟩
theorem witness_DemandKept :
    LoadsSound busy ∧ LineSound busy ∧ ClaimSound busy ∧ DemandWithinLimits busy ∧ ∃ t, step busy = .next t :=
  ⟨busy_loads, busy_line, busy_claim, by unfold DemandWithinLimits; decide, busy_steps⟩

theorem writing_ring : RingSound writing := by
  refine ⟨⟨1, 2, ?_, fun _ => ⟨rfl, rfl⟩, ?_⟩, fun _ => by decide⟩
  · intro i r _ hr
    have none_valid : ∀ i : Fin 32, writing.journal.slots.get i = .failing := by decide
    rw [none_valid i] at hr
    cases hr
  · intro f hf
    cases hf
    exact ⟨rfl, rfl, by simp [Slot.valid?, makeRecord]⟩

theorem witness_RingKept : WriterSound writing ∧ RingSound writing ∧ ∃ t, step writing = .next t :=
  ⟨witness_WriterKept.1, writing_ring, _, rfl⟩

/-! ## Transactions -/

/-- The bytes of a progress record of cycle 1,204. -/
def progressBytes (phase check : Byte) : List Byte := [4, 0xB4, phase, 3, 0x14, 2, 0x58, 3, 0x84, check]

/-- The part with this many requests queued and events waiting. -/
def crammed (requests events : Nat) : State :=
  { part .alone with port := { Port.initial with
      requests := List.replicate requests (request .hostStop [])
      events := List.replicate events (.mainsBack 4) } }

theorem witness_SendRequestOutcome :
    (28 ≤ (List.replicate 28 (0 : Byte)).length ∧ outstanding (crammed 7 8) < 8
        ∧ outstanding (crammed 7 8) + eventsWaiting (crammed 7 8) < 16)
    ∧ (16 ≤ outstanding (withEvents 16 (part .alone)) + eventsWaiting (withEvents 16 (part .alone)))
    ∧ 8 ≤ outstanding (crammed 8 0)
    ∧ ((List.replicate 27 (0 : Byte)).length < 28 ∧ (part .alone).power = .running) := by decide

/-- R153: a 28-byte request record joins the queue; the status byte is 01h. -/
theorem test_sendRequest_queued :
    (after (.sendRequest ([0x3C, 3, 0x55, 1] ++ List.replicate 26 0)) (part .alone)).port.requests
        = [⟨3, 0x55, 1 :: List.replicate 25 0⟩]
    ∧ (after (.sendRequest ([0x3C, 3, 0x55, 1] ++ List.replicate 26 0)) (part .alone)).port.sdo
        = List.replicate 29 0 ++ [1] := by decide

/-- R153: a ninth outstanding request is refused with 02h. -/
theorem test_sendRequest_full :
    (after (.sendRequest (0x3C :: List.replicate 29 0)) (crammed 8 0)).port.requests.length = 8
    ∧ (after (.sendRequest (0x3C :: List.replicate 29 0)) (crammed 8 0)).port.sdo = List.replicate 29 0 ++ [2] := by decide

theorem witness_TakeEventOutcome :
    (withEvents 2 (part .alone)).port.events = .mainsBack 4 :: [.mainsBack 4]
    ∧ 24 ≤ 24 ∧ 23 < 24 ∧ (part .alone).port.events = [] ∧ (part .alone).power = .running := by decide

/-- R160, R165: MAINS_BACK with 4 s is shifted out after the count of 2, and removed. -/
theorem test_takeEvent_mainsBack :
    (after (.takeEvent (0x5A :: List.replicate 24 0)) (withEvents 2 (part .alone))).port.sdo
        = [2, 6, 0, 4] ++ List.replicate 21 0
    ∧ (after (.takeEvent (0x5A :: List.replicate 24 0)) (withEvents 2 (part .alone))).port.events.length = 1 := by decide

/-- R160: a transaction cut short removes nothing. -/
theorem test_takeEvent_cutShort :
    (after (.takeEvent (0x5A :: List.replicate 23 0)) (withEvents 2 (part .alone))).port.events.length = 2 := by decide

theorem witness_ReadStatusOutcome : 9 ≤ 9 ∧ 8 < 9 ∧ (part .alone).power = .running := by decide

/-- R163, R165: the summary of a RUNNING part holding five steps, its gauge ARMED, in SOLO with NO_PEERS. -/
theorem test_readStatus_summary :
    (after (.readStatus (0xC3 :: List.replicate 9 0)) (holds 5 5 (inState .running (part (.solo .noPeers))))).port.sdo
      = [0, 0x05, 0x24, 0x14, 3, 0, 0, 0x53, 4, 0xB4] := by decide

theorem witness_AttentionFollowsTheEvents :
    (part .alone).power = .running
    ∧ 16 ≤ outstanding (withEvents 16 (part .alone)) + eventsWaiting (withEvents 16 (part .alone))
    ∧ (powered .resetHeld (part .off)).power = .resetHeld ∧ 10 ≤ 10 ∧ (part .alone).power ≠ .unpowered
    ∧ (powered .resetHeld (part .off)).journal.inFlight = none := by decide

/-- The mid-cycle context of the walkthrough's second outage, its phase COOL. -/
def cooling : State :=
  { part .alone with context := { (inState .running (part .alone)).context with progress := some (cycle .cool) } }

theorem witness_ProgressCommits_refused :
    (part .alone).power = .running ∧ (progressBytes 1 0xFE).length = 10
    ∧ ((progressBytes 1 0xFE).take 9).length < 10
    ∧ progressOf (progressBytes 1 0xFF) = none ∧ progressOf (progressBytes 4 0xFB) = none
    ∧ (part .alone).context.cycleState ≠ .running
    ∧ progressOf (progressBytes 1 0xFE) = some ⟨1204, .heat, 788, 600, 900⟩
    ∧ (⟨1205, .heat, 1, 1, 1⟩ : Progress).cycleId ≠ (cycle .heat).cycleId
    ∧ cooling.context.progress = some (cycle .cool) ∧ Phase.heat.rank < (cycle .cool).phase.rank := by decide

theorem witness_ProgressCommits_taken :
    (inState .running (part .alone)).power = .running ∧ ExchangeSound (inState .running (part .alone))
    ∧ progressOf (progressBytes 1 0xFE) = some ⟨1204, .heat, 788, 600, 900⟩
    ∧ progressOf (progressBytes 2 0xFD) = some ⟨1204, .cool, 788, 600, 900⟩
    ∧ (inState .running (part .alone)).context.progress = some (cycle .heat)
    ∧ (cycle .heat).phase.rank ≤ Phase.heat.rank ∧ (cycle .heat).phase.rank ≤ Phase.cool.rank :=
  ⟨rfl, exchange_of (by decide), by decide, by decide, rfl, by decide, by decide⟩

/-- R15: after a first commit A is NEWEST and B is HOST_WRITE. -/
theorem test_writeProgress_rotates :
    (after (.writeProgress (0x96 :: progressBytes 1 0xFE)) (inState .running (part .alone))).exchange
      = ⟨.newest ⟨1204, .heat, 788, 600, 900⟩, .hostWrite, .free⟩ := by decide

/-- R15 step 6, R17: a commit of a later phase is taken into a PROGRESS record at once. -/
theorem test_writeProgress_laterPhase :
    let t := after (.writeProgress (0x96 :: progressBytes 2 0xFD)) (inState .running (part .alone))
    t.exchange = ⟨.journalHeld ⟨1204, .cool, 788, 600, 900⟩, .hostWrite, .free⟩
    ∧ t.journal.inFlight.map (·.record.body.kind) = some .progress := by decide

/-! ## Requests -/

/-- A request of a kind sent to a state is served there. -/
def Sent (k : RequestKind) (params : List Byte) (s : State) : Prop :=
  Served k (sentTo k params s) (request k params) []

theorem sent_of {k : RequestKind} {params : List Byte} {s : State}
    (h : s.power = .running ∧ s.port.inService = none
      ∧ (s.supply.supplyState = .starting ∨ s.supply.supplyState = .onMains)
      ∧ s.settings ≠ none) : Sent k params s :=
  ⟨h.1, h.2.1, rfl, rfl, h.2.2.1, fun _ => h.2.2.2⟩

/-- The part before it has been configured. -/
def fresh : State := { part .off with settings := none }

theorem witness_CommonTestsRefuse :
    (∀ x ∈ [SupplyState.holding, .dormant, .returning],
      (sentTo .openCycle [] (supplied x (part .off))).power = .running
      ∧ (sentTo .openCycle [] (supplied x (part .off))).supply.supplyState = x)
    ∧ (sentTo .openCycle [] fresh).port.inService = none
    ∧ (sentTo .openCycle [] fresh).port.requests = [request .openCycle []]
    ∧ (sentTo .openCycle [] fresh).settings = none
    ∧ (request .openCycle []).kind ≠ RequestKind.hostStop.code := by decide

theorem witness_CommonTestsRefuse_unknown (k : RequestKind) : (⟨0, 5, []⟩ : Request).kind ≠ k.code
    ∧ (⟨9, 5, []⟩ : Request).kind ≠ k.code := by cases k <;> decide

/-- R49: a request served in HOLDING is refused SUPPLY_LOST, whatever its kind. -/
theorem test_unknownKind_away :
    (after .unknownKindServed { supplied .holding (part .off) with port :=
      { Port.initial with requests := [⟨9, 5, []⟩] } }).port.events
      = [.completion 5 9 .supplyLost 0 0] := by decide

theorem test_unknownKind_badKind :
    (after .unknownKindServed { part .alone with port :=
      { Port.initial with requests := [⟨9, 5, []⟩] } }).port.events
      = [.completion 5 9 .badKind 0 0] := by decide

/-- An INTERRUPTED cycle whose plan awaits an answer. -/
def asked : State :=
  { inState .interrupted (part .alone) with assessor := { Assessor.initial with awaiting := true } }

/-- The same with the door open. -/
def askedOpen : State := { asked with permits := { asked.permits with doorOpen := true } }

theorem witness_OwnTestsRefuse_cycle :
    (Sent .openCycle [0, 1, 1] (inState .running (part .alone))
      ∧ (inState .running (part .alone)).context.cycleState ≠ .noCycle)
    ∧ (Sent .openCycle [0, 0, 1] (part .alone) ∧ num16 (request .openCycle [0, 0, 1]).params 0 = 0)
    ∧ (Sent .openCycle [0, 1, 3] (part .alone) ∧ byteAt (request .openCycle [0, 1, 3]).params 2 = 3)
    ∧ (Sent .openCycle [0, 1, 0] (part .alone) ∧ (part .alone).context.cycleState = .noCycle)
    ∧ (Sent .hostStop [7] (part .alone) ∧ Sent .continueCycle [] (part .alone)
      ∧ Sent .closeCycle [1] (part .alone))
    ∧ (Sent .closeCycle [1] asked ∧ asked.context.cycleState = .interrupted)
    ∧ (Sent .resumeAnswer [0] asked ∧ Sent .resumeAnswer [3] asked)
    ∧ (Sent .resumeAnswer [1] (part .alone) ∧ Sent .resumeAnswer [2] (inState .interrupted (part .alone))
      ∧ (inState .interrupted (part .alone)).assessor.awaiting = false)
    ∧ (Sent .resumeAnswer [1] askedOpen ∧ askedOpen.permits.doorOpen = true ∧ askedOpen.context.plan ≠ none) := by
  refine ⟨⟨?_, ?_⟩, ⟨?_, ?_⟩, ⟨?_, ?_⟩, ⟨?_, ?_⟩, ⟨?_, ?_, ?_⟩, ⟨?_, ?_⟩, ⟨?_, ?_⟩, ⟨?_, ?_, ?_⟩, ⟨?_, ?_, ?_⟩⟩ <;>
    first | exact sent_of (by decide) | decide

/-- Two steps held in a RUNNING cycle. -/
def two : State := holds 2 2 (inState .running (part .alone))

theorem witness_OwnTestsRefuse_steps :
    (Sent .requestStep [0] two ∧ Sent .requestStep [7] two)
    ∧ (Sent .requestStep [1] asked ∧ asked.context.cycleState = .interrupted)
    ∧ (Sent .requestStep [6] { inState .running (part .alone) with
        permits := { (part .alone).permits with doorOpen := true } })
    ∧ (Sent .requestStep [2] two ∧ 2 ≤ heldLen two)
    ∧ (Sent .requestStep [3] (asks 3 two) ∧ isPending (asks 3 two) 3 = true)
    ∧ (Sent .requestStep [4] two ∧ heldLen two < 4 ∧ isPending two 4 = false
        ∧ heldUnmarked two 3 = false ∧ isPending two 3 = false)
    ∧ (Sent .dropStep [0] two ∧ Sent .dropStep [7] two)
    ∧ (Sent .dropStep [3] two ∧ heldLen two < 3 ∧ isPending two 3 = false) := by
  refine ⟨⟨?_, ?_⟩, ⟨?_, ?_⟩, ?_, ⟨?_, ?_⟩, ⟨?_, ?_⟩, ⟨?_, ?_, ?_, ?_, ?_⟩, ⟨?_, ?_⟩, ⟨?_, ?_, ?_⟩⟩ <;>
    first | exact sent_of (by decide) | decide

/-- R121: a repeated request is a DUPLICATE, and its step is echoed. -/
theorem test_requestStep_duplicate :
    (after .requestStep (sentTo .requestStep [2] two)).port.events
      = [.completion 5 3 .duplicate 2 0] := by decide

/-- R121: a request that passes waits in step order. -/
theorem test_requestStep_pending :
    (after .requestStep (sentTo .requestStep [3] (asks 4 two))).admission.pending
      = [⟨3, 5, 0, 0⟩, ⟨4, 9, 0, 0⟩] := by decide

/-! ### CONFIGURE -/

/-- The parameter bytes of settings, in the order of the request layout (R157). -/
def bytesOf (c : Settings) : List Byte :=
  [byte8 c.station, byte8 c.bankSize, byte8 c.drumFeeder, byte8 c.airFeeder, byte8 c.airDuct]
  ++ bytes16 c.heater ++ bytes16 c.feederLimit ++ bytes16 c.ductLimit ++ bytes16 c.halfLife
  ++ [byte8 c.reheatFactor] ++ bytes16 c.reheatCap ++ bytes16 c.creaseTime ++ bytes16 c.reliefTime
  ++ [byte8 c.journalInterval, byte8 c.staleLimit, byte8 c.spacing, byte8 c.rampInterval,
    byte8 c.heatPeriod, byte8 c.soloCap]

/-- A CONFIGURE sent to an unconfigured part. -/
theorem configure_served (params : List Byte) :
    Served .configure (sentTo .configure params fresh) (request .configure params) [] :=
  ⟨rfl, rfl, rfl, rfl, .inr rfl, fun h => absurd rfl h⟩

theorem witness_ConfigureRefusedOrHeld :
    (∀ g ∈ [GaugeState.idle, .measuring], ({ fresh with gauge := { fresh.gauge with gaugeState := g } } :
        State).gauge.gaugeState = g)
    ∧ (fresh.gauge.gaugeState ≠ .idle ∧ fresh.gauge.gaugeState ≠ .measuring ∧ fresh.settings = none
        ∧ (part .alone).settings ≠ none)
    ∧ (∀ c ∈ [{ wash with station := 16 }, { wash with bankSize := 0 }, { wash with bankSize := 17 }],
        (request .configure (bytesOf c)).settings = c ∧ (15 < c.station ∨ c.bankSize = 0 ∨ 16 < c.bankSize))
    ∧ (∀ c ∈ [{ wash with airDuct := 0 }, { wash with heater := 1021 }, { wash with feederLimit := 0 },
          { wash with feederLimit := 4096 }, { wash with ductLimit := 0 }, { wash with ductLimit := 4096 },
          { wash with feederLimit := 54 }, { wash with ductLimit := 89 }],
        (request .configure (bytesOf c)).settings = c
        ∧ ¬ (15 < c.station ∨ c.bankSize = 0 ∨ 16 < c.bankSize)
        ∧ (c.airDuct = 0 ∨ 1020 < c.heater ∨ c.feederLimit = 0 ∨ 4095 < c.feederLimit
          ∨ c.ductLimit = 0 ∨ 4095 < c.ductLimit ∨ c.feederLimit < c.drumFeeder + c.airFeeder
          ∨ c.ductLimit < c.airDuct)) := by decide

/-- R157: the ranges of a CONFIGURE that is accepted. -/
def InRange (c : Settings) : Prop :=
  c.station ≤ 15 ∧ 1 ≤ c.bankSize ∧ c.bankSize ≤ 16 ∧ 1 ≤ c.airDuct ∧ c.heater ≤ 1020 ∧ 1 ≤ c.feederLimit
  ∧ c.feederLimit ≤ 4095 ∧ 1 ≤ c.ductLimit ∧ c.ductLimit ≤ 4095 ∧ c.drumFeeder + c.airFeeder ≤ c.feederLimit
  ∧ c.airDuct ≤ c.ductLimit

/-- Settings at the ends of the ranges. -/
def highest : Settings :=
  { wash with station := 15, bankSize := 16, heater := 1020, feederLimit := 4095, ductLimit := 4095 }
def lowest : Settings := { wash with station := 0, bankSize := 1, airDuct := 1, feederLimit := 55, ductLimit := 1 }

theorem witness_ConfigureAccepted :
    Served .configure (sentTo .configure (bytesOf wash) fresh) (request .configure (bytesOf wash)) []
    ∧ InRange (request .configure (bytesOf wash)).settings
    ∧ InRange (request .configure (bytesOf highest)).settings
    ∧ InRange (request .configure (bytesOf lowest)).settings
    ∧ fresh.settings = none ∧ fresh.gauge.gaugeState ≠ .idle ∧ fresh.gauge.gaugeState ≠ .measuring
    ∧ fresh.supply.supplyState = .onMains ∧ (supplied .starting fresh).supply.supplyState ≠ .onMains
    ∧ fresh.context.cycleState = .noCycle :=
  ⟨configure_served _, by unfold InRange; decide, by unfold InRange; decide, by unfold InRange; decide, by decide,
    by decide, by decide, by decide, by decide, by decide⟩

/-- R157, R158: BAD_STATION names the settings that failed; a half-life of 29 s is raised to 30 s and
named as bit 8, and CLAMPED comes before the PLAN. -/
theorem test_configure_results :
    (after .configure (sentTo .configure (bytesOf { wash with station := 16, bankSize := 17 }) fresh)).port.events
      = [.completion 5 1 .badStation 0 3]
    ∧ (after .configure (sentTo .configure (bytesOf { wash with halfLife := 29 }) fresh)).settings.map
        (·.halfLife) = some 30
    ∧ (after .configure (sentTo .configure (bytesOf { wash with halfLife := 29 }) fresh)).port.events.head?
        = some (.completion 5 1 .clamped 0 0x100) := by decide

/-- The LOSS record of station 2 in the restart after a 26-minute outage, as the scan recovers it. -/
def recovered : State :=
  { fresh with context := { (inState .interrupted fresh).context with plan := none } }

theorem witness_AssessmentsOfAnOpenCycle :
    recovered.context.progress = some (cycle .heat) ∧ ExchangeSound recovered
    ∧ recovered.context.cycleState = .interrupted ∧ (inState .stopped fresh).context.cycleState = .stopped
    ∧ Served .configure (sentTo .configure (bytesOf wash) recovered) (request .configure (bytesOf wash)) []
    ∧ badStationMap (request .configure (bytesOf wash)).settings = 0
    ∧ badLimitMap (request .configure (bytesOf wash)).settings = 0
    ∧ (settled (supplied .returning (inState .interrupted (part .off)))).supply.supplyState = .returning
    ∧ 50 ≤ (settled (supplied .returning (inState .interrupted (part .off)))).supply.settle
    ∧ (supplied .returning (inState .interrupted (part .off))).settings = some wash :=
  ⟨rfl, exchange_of (by decide), rfl, rfl, ⟨rfl, rfl, rfl, rfl, .inr rfl, fun h => absurd rfl h⟩, by decide,
    by decide, rfl, by decide, rfl⟩

/-- The rows of the plan table at their boundaries: FINISH at S equal to R, and S at and past Tc of 600. -/
theorem witness_AssessmentsOfAnOpenCycle_rows :
    (tableRow wash (cycle .guarding) 900).map (·.action) = none
    ∧ (tableRow wash (cycle .guarding) 899).map (·.action) = some .relief
    ∧ (tableRow wash (cycle .guarding) 600).map (·.action) = some .resumeGuard
    ∧ (tableRow wash (cycle .cool) 600).map (·.action) = some .resumeCool
    ∧ (tableRow wash (cycle .cool) 601).map (·.action) = some .relief
    ∧ (tableRow wash ⟨1204, .cool, 600, 0, 900⟩ 600).map (·.action) = some .resumeGuard
    ∧ (tableRow wash (cycle .heat) 65535).map (·.action) = some .resumeHeat := by decide

/-- Chapter 11, station 2: L 661 at h 600 gives t 1,549, Rx 580 and RESUME_HEAT with heat 1,480. -/
theorem test_configure_walkthroughPlan :
    let t := after .configure (sentTo .configure (bytesOf wash) recovered)
    t.assessor.gaugeOff = some (.seconds 1549) ∧ t.context.still = 1549
    ∧ t.context.plan.map (fun p => (p.action, p.reheat, p.figures.heat, p.base))
        = some (.run .resumeHeat, some 580, some 1480, some 8) := by decide

/-- Chapter 11, station 11: S 1,514 above Tc in GUARD with R 1,800 gives RELIEF with guard 286; R75: an S
that has reached R finishes the cycle, with the PLAN posted before CLOSE (FINISHED). -/
theorem test_planTable_guard :
    planRow wash ⟨2071, .guarding, 1800, 0, 0⟩ 1514 = some (.relief, ⟨none, none, some 180, some 286⟩)
    ∧ (let s := { recovered with context := { recovered.context with progress := some (cycle .guarding) } }
      let t := after .configure (sentTo .configure (bytesOf wash) s)
      t.context.cycleState = .noCycle
      ∧ t.journal.inFlight.map (fun f => (f.record.body.reason, f.record.body.still))
          = some (.close .finished, 1549)) := by
  decide

/-! ### Cycle requests -/

theorem witness_CycleOpensOrContinues :
    (Sent .openCycle [4, 0xB4, 1] (part .alone) ∧ ExchangeSound (sentTo .openCycle [4, 0xB4, 1] (part .alone))
      ∧ (part .alone).context.cycleState = .noCycle
      ∧ num16 (request .openCycle [4, 0xB4, 1]).params 0 ≠ 0
      ∧ phaseOf (byteAt (request .openCycle [4, 0xB4, 1]).params 2) = some .heat)
    ∧ (Sent .continueCycle [] (inState .stopped (part .alone))
      ∧ ExchangeSound (sentTo .continueCycle [] (inState .stopped (part .alone)))
      ∧ (inState .stopped (part .alone)).context.cycleState = .stopped
      ∧ (inState .stopped (part .alone)).context.progress = some (cycle .heat)) :=
  ⟨⟨sent_of (by decide), exchange_of (by decide), by decide, by decide, by decide⟩,
    sent_of (by decide), exchange_of (by decide), by decide, by decide⟩

/-- R4: OPEN_CYCLE of cycle 1,204 in HEAT. -/
theorem test_openCycle_running :
    let t := after .openCycle (sentTo .openCycle [4, 0xB4, 1, 3, 0x84, 2, 0x58, 3, 0x84] (part .alone))
    t.context.cycleState = .running ∧ t.context.progress = some (cycle .heat) ∧ t.context.base = 4
    ∧ t.journal.inFlight.map (·.record.body.kind) = some .opened := by decide

/-- R6: a continued cycle is RUNNING again, its stop reason gone and a RESUMED record queued. -/
theorem test_continueCycle_resumed :
    let t := after .continueCycle (sentTo .continueCycle [] (inState .stopped (part .alone)))
    t.context.cycleState = .running ∧ t.context.stopReason = none
    ∧ t.journal.inFlight.map (·.record.body.reason) = some .continued := by decide

theorem witness_StopAndCloseReleaseEverything :
    (Sent .hostStop [7] two ∧ LoadsSound (sentTo .hostStop [7] two) ∧ ExchangeSound (sentTo .hostStop [7] two)
      ∧ two.context.cycleState = .running ∧ two.context.progress = some (cycle .heat))
    ∧ (Sent .closeCycle [1] two ∧ LoadsSound (sentTo .closeCycle [1] two)
      ∧ ExchangeSound (sentTo .closeCycle [1] two))
    ∧ (Sent .hostStop [7] busy ∧ LoadsSound (sentTo .hostStop [7] busy)
      ∧ ExchangeSound (sentTo .hostStop [7] busy) ∧ announcedStep busy = some 4 ∧ 1 ≤ heldLen busy)
    ∧ (∀ c ∈ [CycleState.stopped, .resuming], (inState c (part .alone)).context.cycleState = c
      ∧ (inState c (part .alone)).context.progress = some (cycle .heat)) :=
  ⟨⟨sent_of (by decide), loads_of (by decide), exchange_of (by decide), rfl, rfl⟩,
    ⟨sent_of (by decide), loads_of (by decide), exchange_of (by decide)⟩,
    ⟨sent_of (by decide), loads_of (by decide), exchange_of (by decide), by decide, by decide⟩, by decide⟩

/-- R99, R100: a frame offered to a full queue takes the place of its last RELEASED, and a WITHDRAWN of a claim
whose CLAIM has been sent is offered so too. -/
theorem test_fullQueue_replaces :
    let released (n : Nat) : QueuedFrame := ⟨.released, n, 60, 0, false⟩
    let full : State := { two with line := { two.line with
      queue := [presence, released 5, released 4, ⟨.taken, 3, 60, 0, false⟩] } }
    (offer ⟨.taken, 3, 60, 0, false⟩ full).line.queue
      = [presence, released 5, ⟨.taken, 3, 60, 0, false⟩, ⟨.taken, 3, 60, 0, false⟩]
    ∧ (withdrawFrame withdrawnFrame full).line.queue
      = [presence, released 5, withdrawnFrame, ⟨.taken, 3, 60, 0, false⟩] := by decide

/-- R5, R127: a stop with a claim for HEAT2 on the line releases three steps and then withdraws it. -/
theorem test_hostStop_withdraws :
    (after .hostStop (sentTo .hostStop [7] busy)).line.queue
      = [⟨.released, 0, 115, 90, false⟩, ⟨.withdrawn, 4, 60, 0, false⟩] := by decide

/-- R5, R93: a stop releases DRUM and AIR in one frame of 55 and 90 and keeps the reason. -/
theorem test_hostStop_releases :
    let t := after .hostStop (sentTo .hostStop [7] two)
    t.context.stopReason = some 7 ∧ t.admission.held = [] ∧ t.permits.drum = false
    ∧ t.line.queue = [⟨.released, 0, 55, 90, false⟩] := by decide

/-- R7: reason 2 is UNLOADED. -/
theorem test_closeCycle_unloaded :
    let t := after .closeCycle (sentTo .closeCycle [2] two)
    t.context.cycleState = .noCycle
    ∧ t.journal.inFlight.map (·.record.body.reason) = some (.close .unloaded) := by decide

/-- The same plan in GUARD with 900 s remaining, at this S. -/
def askedGuard (still : Nat) : State :=
  { asked with context := { asked.context with progress := some (cycle .guarding), still := still } }

theorem witness_ResumeAnswerTaken :
    (Sent .resumeAnswer [1] asked ∧ Sent .resumeAnswer [2] asked ∧ ExchangeSound (sentTo .resumeAnswer [1] asked)
      ∧ ClaimSound (sentTo .resumeAnswer [1] asked))
    ∧ (asked.context.cycleState = .interrupted ∧ asked.assessor.awaiting = true
      ∧ asked.context.plan = some plan ∧ asked.context.progress = some (cycle .heat)
      ∧ asked.permits.doorOpen = false ∧ (cycle .heat).phase ≠ .guarding)
    ∧ (Sent .resumeAnswer [1] (askedGuard 900) ∧ ExchangeSound (sentTo .resumeAnswer [1] (askedGuard 900))
      ∧ ClaimSound (sentTo .resumeAnswer [1] (askedGuard 900)))
    ∧ (askedGuard 899).context.still < (cycle .guarding).remaining
    ∧ (cycle .guarding).remaining ≤ (askedGuard 900).context.still
    ∧ (askedGuard 900).context.progress = some (cycle .guarding) :=
  ⟨⟨sent_of (by decide), sent_of (by decide), exchange_of (by decide), claim_of (by decide)⟩, by decide,
    ⟨sent_of (by decide), exchange_of (by decide), claim_of (by decide)⟩, by decide, by decide, rfl⟩

/-- R9: an accepted plan gives RESUMING; R82: a guard already expired retires it at once, after DONE. -/
theorem test_resumeAnswer_accept :
    (after .resumeAnswer (sentTo .resumeAnswer [1] asked)).context.cycleState = .resuming
    ∧ (after .resumeAnswer (sentTo .resumeAnswer [1] (askedGuard 900))).context.cycleState = .noCycle
    ∧ (after .resumeAnswer (sentTo .resumeAnswer [1] (askedGuard 900))).port.events.head?
        = some (.completion 5 8 .done 0 0) := by decide

/-! ### Step requests -/

theorem witness_RequestStepTaken :
    (Sent .requestStep [1] (inState .running (part .alone))
      ∧ LoadsSound (sentTo .requestStep [1] (inState .running (part .alone))))
    ∧ (Sent .requestStep [6] (holds 5 5 (inState .running (part .alone)))
      ∧ LoadsSound (sentTo .requestStep [6] (holds 5 5 (inState .running (part .alone))))
      ∧ heldUnmarked (holds 5 5 (inState .running (part .alone))) 5 = true)
    ∧ (Sent .requestStep [4] (asks 3 two) ∧ isPending (asks 3 two) 3 = true
      ∧ isPending (asks 3 two) 4 = false)
    ∧ (Sent .requestStep [1] (inState .resuming (part .alone))) :=
  ⟨⟨sent_of (by decide), loads_of (by decide)⟩, ⟨sent_of (by decide), loads_of (by decide), by decide⟩,
    ⟨sent_of (by decide), by decide, by decide⟩, sent_of (by decide)⟩

/-- HEAT1 claimed, with HEAT2 pending above it. -/
def claimsLower : State :=
  { two with admission := { two.admission with
      pending := [⟨3, 9, 0, 0⟩, ⟨4, 8, 0, 0⟩], claim := .sending 3 8 } }

theorem witness_DropPendingStep :
    Sent .dropStep [3] (asks 3 two) ∧ LoadsSound (sentTo .dropStep [3] (asks 3 two))
    ∧ ClaimSound (sentTo .dropStep [3] (asks 3 two)) ∧ isPending (asks 3 two) 3 = true
    ∧ (ClaimSound (sentTo .dropStep [3] (claiming (.sending 3 8) (asks 3 two)))
      ∧ announcedStep (claiming (.sending 3 8) (asks 3 two)) = some 3)
    ∧ (Sent .dropStep [4] claimsLower ∧ LoadsSound (sentTo .dropStep [4] claimsLower)
      ∧ ClaimSound (sentTo .dropStep [4] claimsLower) ∧ isPending claimsLower 4 = true
      ∧ announcedStep claimsLower = some 3) :=
  ⟨sent_of (by decide), loads_of (by decide), claim_of (by decide), by decide, ⟨claim_of (by decide), by decide⟩,
    sent_of (by decide), loads_of (by decide), claim_of (by decide), by decide, by decide⟩

/-- R131: a dropped pending step completes CANCELLED and then the drop DONE. -/
theorem test_dropStep_pending :
    (after .dropStep (sentTo .dropStep [3] (asks 3 two))).port.events
      = [.completion 9 3 .cancelled 3 0, .completion 5 4 .done 3 0] := by decide

/-- All six steps held in a RUNNING cycle. -/
def six : State := holds 6 6 (inState .running (part .alone))

theorem witness_HeldStepsDropped :
    (Sent .dropStep [1] two ∧ Sent .dropStep [2] two ∧ LoadsSound (sentTo .dropStep [2] two)
      ∧ ClaimSound (sentTo .dropStep [2] two) ∧ 2 ≤ heldLen two)
    ∧ (Sent .dropStep [3] six ∧ Sent .dropStep [6] six ∧ LoadsSound (sentTo .dropStep [3] six)
      ∧ ClaimSound (sentTo .dropStep [3] six) ∧ 6 ≤ heldLen six)
    ∧ (Sent .dropStep [2] busy ∧ Sent .dropStep [3] busy ∧ LoadsSound (sentTo .dropStep [3] busy)
      ∧ ClaimSound (sentTo .dropStep [3] busy) ∧ announcedStep busy = some 4) :=
  ⟨⟨sent_of (by decide), sent_of (by decide), loads_of (by decide), claim_of (by decide), by decide⟩,
    ⟨sent_of (by decide), sent_of (by decide), loads_of (by decide), claim_of (by decide), by decide⟩,
    sent_of (by decide), sent_of (by decide), loads_of (by decide), claim_of (by decide), by decide⟩

/-- R133: a dropped heat step is marked with those above it, and its completion waits. -/
theorem test_dropStep_heat :
    let t := after .dropStep (sentTo .dropStep [5] six)
    t.admission.held.map (·.mark) = [false, false, false, false, true, true] ∧ t.port.events = []
    ∧ t.admission.waiters = [⟨5, 5⟩] := by decide

/-! ## Journal and timers -/

theorem witness_WriteCompletes :
    writing.journal.inFlight.isSome = true ∧ writing.power ≠ .unpowered ∧ writing.journal.waiting ≠ none
    ∧ writing.supply.supplyState ≠ .dormant
    ∧ (powered .resetHeld writing).power ≠ .running ∧ (supplied .dormant writing).supply.supplyState = .dormant
    ∧ ({ writing with journal := { writing.journal with waiting := none } } : State).journal.waiting = none := by
  decide

/-- R27: the record in flight is whole in slot 0, and the waiting one starts in slot 1 with number 2. -/
theorem test_writeComplete_next :
    let t := after .writeComplete writing
    (t.journal.slots.get 0 ≠ .failing) ∧ t.journal.inFlight.map (fun f => (f.slot, f.record.seq)) = some (1, 2)
    ∧ t.journal.waiting = none := by decide

/-- A RUNNING cycle with an accepted commit. -/
def committed : State := after (.writeProgress (0x96 :: progressBytes 1 0xFE)) (inState .running (part .alone))

/-- The journal interval at its tenth second, and the freshness timer at its fifth. -/
def intervalDue (s : State) : State :=
  { s with journal := { s.journal with intervalRunning := true, intervalTicks := 1000 } }
def staleDue (s : State) : State := { s with context := { s.context with freshTicks := 500 } }

theorem witness_JournalIntervalAndFreshness :
    (committed.power = .running ∧ ExchangeSound committed ∧ ExchangeSound (intervalDue committed)
      ∧ (intervalDue committed).exchange.newest? = some ⟨1204, .heat, 788, 600, 900⟩
      ∧ (cfg committed).journalInterval * 100 ≤ (intervalDue committed).journal.intervalTicks
      ∧ 999 < (cfg committed).journalInterval * 100)
    ∧ (ExchangeSound (intervalDue (inState .running (part .alone)))
      ∧ (inState .running (part .alone)).exchange.newest? = none)
    ∧ (committed.context.cycleState = .running ∧ committed.context.freshRunning = true
      ∧ committed.context.progress = some ⟨1204, .heat, 788, 600, 900⟩
      ∧ committed.context.freshTicks < (cfg committed).staleLimit * 100
      ∧ (cfg committed).staleLimit * 100 ≤ (staleDue committed).context.freshTicks) :=
  ⟨⟨by decide, exchange_of (by decide), exchange_of (by decide), by decide⟩,
    ⟨exchange_of (by decide), by decide⟩, by decide⟩

/-- R23, R17: the interval takes the NEWEST buffer. -/
theorem test_journalInterval_takes :
    (after .journalInterval (intervalDue committed)).exchange
      = ⟨.journalHeld ⟨1204, .heat, 788, 600, 900⟩, .hostWrite, .free⟩ := by decide

/-- R13: STALE is set and PROGRESS_STALE posted; an accepted commit taken first keeps both from happening. -/
theorem test_freshnessExpiry_stale :
    (after .freshnessExpiry (staleDue committed)).context.stale = true
    ∧ (after .freshnessExpiry (staleDue committed)).port.events = [.progressStale 1204]
    ∧ (let t := after .freshnessExpiry (after (.writeProgress (0x96 :: progressBytes 1 0xFE)) (staleDue committed))
      t.context.stale = false ∧ t.context.freshRunning = true ∧ t.port.events = []) := by decide

/-- A RESUMING cycle in GUARD with 900 s remaining and this S. -/
def guarding (still : Nat) : State :=
  stillDue { inState .resuming (part .alone) with context :=
    { (inState .resuming (part .alone)).context with progress := some (cycle .guarding), still := still } }

theorem witness_StillTimerAddsASecond :
    (∀ c ∈ [CycleState.interrupted, .resuming, .stopped], (stillDue (inState c (part .alone))).power = .running
      ∧ (stillDue (inState c (part .alone))).context.cycleState = c
      ∧ (stillDue (inState c (part .alone))).context.stillStarted = true
      ∧ 100 ≤ (stillDue (inState c (part .alone))).context.stillTicks
      ∧ (inState c (part .alone)).context.stillTicks < 100
      ∧ (inState c (part .alone)).supply.supplyState = .onMains)
    ∧ (supplied .starting asked).supply.supplyState = .starting
    ∧ (supplied .starting asked).gauge.startup ≠ .noneYet
    ∧ min 65535 ((guarding 898).context.still + 1) < (cycle .guarding).remaining := by decide

/-- The same in STARTING after the start-up reading, where no line mode permits a claim. -/
def guardingStarting : State := { guarding 899 with supply := (supplied .starting (part .off)).supply,
                                                    line := Line.initial }

/-- DRUM claimed in that cycle. -/
def guardingClaim : State := claiming (.sending 1 8) (asks 1 (guarding 899))

theorem witness_GuardExpires_claim :
    LoadsSound guardingClaim ∧ ClaimSound guardingClaim ∧ announcedStep guardingClaim = some 1 :=
  ⟨loads_of (by decide), claim_of (by decide), by decide⟩

theorem witness_GuardExpires :
    ((guarding 899).power = .running ∧ (guarding 899).context.stillStarted = true
      ∧ (guarding 899).supply.supplyState = .onMains ∧ (guarding 899).context.cycleState = .resuming
      ∧ 100 ≤ (guarding 899).context.stillTicks)
    ∧ (LoadsSound (asks 1 (guarding 899)) ∧ ClaimSound (asks 1 (guarding 899))
      ∧ ExchangeSound (asks 1 (guarding 899)))
    ∧ ((guarding 899).context.progress = some (cycle .guarding) ∧ (guarding 899).context.plan = some plan
      ∧ (cycle .guarding).remaining ≤ min 65535 ((guarding 899).context.still + 1))
    ∧ (LoadsSound (claiming (.holding 1 8 3) (asks 1 (guarding 899)))
      ∧ ClaimSound (claiming (.holding 1 8 3) (asks 1 (guarding 899)))
      ∧ (guarding 899).line.attempt = none ∧ (guarding 899).line.queue = [])
    ∧ (guardingStarting.supply.supplyState = .starting ∧ guardingStarting.gauge.startup ≠ .noneYet
      ∧ LoadsSound guardingStarting ∧ ClaimSound guardingStarting ∧ ExchangeSound guardingStarting) :=
  ⟨by decide, ⟨loads_of (by decide), claim_of (by decide), exchange_of (by decide)⟩, ⟨rfl, rfl, by decide⟩,
    ⟨loads_of (by decide), claim_of (by decide), by decide, by decide⟩, by decide, by decide,
    loads_of (by decide), claim_of (by decide), exchange_of (by decide)⟩

/-- R83: the second that brings S to R closes the cycle; the DRUM request is CANCELLED first. -/
theorem test_stillTimer_guardExpiry :
    let t := after .stillTimerSecond (asks 1 (guarding 899))
    t.context.cycleState = .noCycle
    ∧ t.journal.inFlight.map (fun f => (f.record.body.reason, f.record.body.still))
        = some (.close .guardExpired, 900)
    ∧ t.port.events.head? = some (.completion 9 3 .cancelled 1 0) := by decide

/-- R12, R83: at 898 s the guard test still passes. -/
theorem test_stillTimer_counts :
    (after .stillTimerSecond (guarding 898)).context.still = 899
    ∧ (after .stillTimerSecond (guarding 898)).context.cycleState = .resuming := by decide

/-! ## Power -/

theorem witness_StartsAndResets :
    writing.journal.inFlight.isSome = true ∧ (part .off).journal.inFlight = none
    ∧ (powered .resetHeld (part .off)).power = .resetHeld ∧ (part .off).power ≠ .resetHeld
    ∧ (powered .resetHeld writing).journal.inFlight ≠ none
    ∧ (powered .unpowered (part .off)).power = .unpowered ∧ (part .off).power ≠ .unpowered
    ∧ 10 ≤ 10 ∧ 9 < 10 := by decide

/-- R51, R53: a cold start: unconfigured, STARTING, the scan under way, the cause COLD. -/
theorem test_coldStart_cause :
    let t := after .coldStart (powered .unpowered (part .off))
    t.power = .scanning ∧ t.supply.cause = .cold ∧ t.settings = none ∧ t.supply.supplyState = .starting := by
  decide

/-- R52: RESET_N drops the permits; R31: the write in flight goes on. -/
theorem test_resetN_permits :
    (after (.resetN 10) six).permits.heat = false ∧ (after (.resetN 10) six).permits.drum = false
    ∧ (after (.resetN 9) six).permits.drum = true
    ∧ (after (.resetN 10) writing).journal.inFlight.isSome = true
    ∧ (after (.resetN 10) writing).journal.waiting = none := by decide

/-- R31, R53: the PIN start waits for the write in flight. -/
theorem test_pinStart_cause :
    (after .pinStart (after (.resetN 10) six)).supply.cause = .pin
    ∧ (after .pinStart (after (.resetN 10) writing)).power = .resetHeld := by decide

theorem test_coreSupplyFail_off : (after .coreSupplyFail six).power = .unpowered
    ∧ (after .coreSupplyFail six).permits.drum = false := by decide

/-- A scanning part whose slot 31 holds one record, of this kind and cycle state. -/
def stored (kind : RecordKind) (c : CycleState) : State :=
  let body := { recordOf kind (.stop 7) (inState c (part .off)).context (cycle .heat) (part .off).gauge with
    still := 12 }
  { State.reset with journal := { State.reset.journal with
      slots := State.reset.journal.slots.set 31 (.whole (makeRecord 9 body)) } }

/-- The record of `stored` is the newest, in slot 31 with sequence number 9. -/
def newestIs (kind : RecordKind) (c : CycleState) : Bool :=
  match newestRecord (stored kind c).journal.slots with
  | some (i, r) => decide (i = 31 ∧ r.seq = 9 ∧ r.body.kind = kind ∧ r.body.cycleState = c)
  | none => false

theorem witness_RecoveryScanEnds :
    State.reset.power = .scanning ∧ newestRecord State.reset.journal.slots = none
    ∧ newestIs .closed .running = true ∧ newestIs .stopped .stopped = true ∧ newestIs .loss .stopped = true
    ∧ newestIs .loss .interrupted = true ∧ newestIs .opened .running = true
    ∧ newestIs .progress .running = true ∧ newestIs .resumed .running = true := by decide +kernel

/-- R3, R34: a LOSS record that carries INTERRUPTED; slot 0 follows slot 31. -/
theorem test_recoveryScan_loss :
    let t := after .recoveryScan (stored .loss .interrupted)
    t.context.cycleState = .interrupted ∧ t.context.aged = false ∧ t.context.still = 12
    ∧ t.journal.nextSlot = 0 ∧ t.journal.nextSeq = 10 ∧ t.gauge.journalN0 = 24000 := by decide +kernel

/-- R34: a BLANK journal. -/
theorem test_recoveryScan_blank :
    let t := after .recoveryScan State.reset
    t.context.cycleState = .noCycle ∧ t.journal.nextSlot = 0 ∧ t.journal.nextSeq = 1
    ∧ t.gauge.gaugeState = .measuring := by decide

/-- R33: at the wrap of the sequence numbers. -/
theorem test_laterSeq_wraps : laterSeq 0 4294967295 = true ∧ laterSeq 4294967295 0 = false := by decide

theorem witness_NewestRecordIsWellDefined :
    RingAt 0 10 none (stored .loss .interrupted).journal.slots
    ∧ ∃ i r, ((stored .loss .interrupted).journal.slots.get i).valid? = some r := by
  have failing : ∀ i : Fin 32, i ≠ 31 → (stored .loss .interrupted).journal.slots.get i = .failing := by decide
  have last : ((stored .loss .interrupted).journal.slots.get 31).valid?.map (·.seq) = some 9 := by
    decide +kernel
  constructor
  · intro i r _ hr
    by_cases hi : i = 31
    · subst hi
      rw [hr] at last
      exact (Option.some.inj last).trans (by decide)
    · rw [failing i hi] at hr
      cases hr
  · cases h : ((stored .loss .interrupted).journal.slots.get 31).valid? with
    | none => rw [h] at last; cases last
    | some r => exact ⟨31, r, h⟩

/-! ## Supply -/

/-- A part away from mains with a comparator reading. -/
def away (x : SupplyState) (v : VholdReading) : State :=
  let s := supplied x (part .off)
  { s with supply := { s.supply with vhold := v } }

theorem witness_SupplyInputsAct :
    (∀ v ∈ [VholdReading.mid, .ok], (away .holding v).supply.supplyState = .holding
      ∧ (away .holding v).supply.vhold ≠ .low)
    ∧ ((away .dormant .ok).supply.vhold = .ok ∧ (away .dormant .mid).supply.vhold ≠ .ok)
    ∧ (away .starting .ok).supply.supplyState ≠ .holding ∧ (away .starting .ok).supply.supplyState ≠ .dormant
    ∧ (away .returning .ok).supply.supplyState = .returning
    ∧ ((away .dormant .low).supply.absence < 3 ∧ (away .dormant .low).power = .running)
    ∧ State.reset.power ≠ .running
    ∧ ((away .returning .mid).supply.vhold ≠ .low)
    ∧ (3 ≤ (unseen (away .returning .mid)).supply.absence
        ∧ (unseen (away .returning .low)).supply.vhold = .low)
    ∧ (part .off).supply.absence < 3 ∧ (part .off).journal.inFlight = none
    ∧ (supplied .dormant writing).journal.waiting ≠ none := by decide

/-- R43: in DORMANT a pulse starts RETURNING at OK alone. -/
theorem test_pulse_dormant :
    (after .mainsZcPulse (away .dormant .mid)).supply.supplyState = .dormant
    ∧ (after .mainsZcPulse (away .dormant .ok)).supply.supplyState = .returning
    ∧ (after .mainsZcPulse (away .holding .mid)).supply.supplyState = .returning := by decide

/-- R42, R43: LOW in HOLDING enters DORMANT and cuts the LEAVING frame off. -/
theorem test_vholdReading_low :
    (after (.vholdReading .low) (queued leavingFrame (away .holding .mid))).supply.supplyState = .dormant
    ∧ (after (.vholdReading .low) (queued leavingFrame (away .holding .mid))).line.queue = [] := by decide

/-- Station 2 before the 4-second ride-through: RUNNING, holding DRUM to HEAT2, armed. -/
def four : State := sees [peer] (holds 4 4 (inState .running (part .banked)))

theorem witness_LossDeclared :
    (unseen four).power = .running ∧ 3 ≤ (unseen four).supply.absence ∧ ExchangeSound (unseen four)
    ∧ (unseen four).supply.supplyState = .onMains ∧ (unseen (supplied .starting fresh)).supply.supplyState = .starting
    ∧ ExchangeSound (unseen (supplied .starting fresh))
    ∧ four.gauge.gaugeState = .armed ∧ four.supply.vhold ≠ .low
    ∧ (away .starting .low).supply.vhold = .low ∧ four.context.progress = some (cycle .heat)
    ∧ (part .off).context.cycleState = .noCycle :=
  ⟨rfl, by decide, exchange_of (by decide), by decide, by decide, exchange_of (by decide), by decide⟩

/-- Chapter 11, at 0.034: HOLDING, INTERRUPTED, nothing held, OFF, RELEASED from ARMED; R37: a pulse taken
first has put the count to 0, and there is no loss. -/
theorem test_dropout_loss :
    let t := after .dropout (unseen four)
    t.supply.supplyState = .holding ∧ t.context.cycleState = .interrupted ∧ t.admission.held = []
    ∧ t.line.mode = .off ∧ t.gauge.gaugeState = .released ∧ t.view = []
    ∧ after .dropout (after .mainsZcPulse (unseen four)) = after .mainsZcPulse (unseen four) := by decide

/-- Chapter 11: one STEP_LOST for DRUM with the cause LOSS, followed by MAINS_LOST; the LOSS record keeps N0. -/
theorem test_dropout_events :
    (after .dropout (unseen four)).port.events = [.stepLost 1 .loss 0, .mainsLost .interrupted]
    ∧ (after .dropout (unseen four)).journal.inFlight.map (·.record.body.n0) = some 24000
    ∧ (after .dropout (unseen four)).line.queue = [⟨.released, 0, 175, 90, true⟩] := by decide

theorem witness_ReturnsConfirmed :
    (settled (supplied .starting fresh)).supply.supplyState = .starting
    ∧ (supplied .starting fresh).settings = none ∧ (supplied .starting fresh).supply.settle < 50
    ∧ 50 ≤ (settled (supplied .starting fresh)).supply.settle
    ∧ (supplied .starting (part .off)).settings ≠ none
    ∧ (settled (supplied .returning (part .off))).supply.supplyState = .returning
    ∧ (supplied .returning fresh).settings = none
    ∧ (supplied .returning (part .off)).context.cycleState = .noCycle
    ∧ ({ supplied .returning (part .off) with gauge := { Gauge.initial with gaugeState := .released } } :
        State).gauge.gaugeState = .released
    ∧ (part .off).gauge.gaugeState ≠ .released := by decide

/-- R46: a configured part goes to ON_MAINS and begins its join window. -/
theorem test_returnConfirmation_joins :
    (after .returnConfirmation (settled (supplied .starting (part .off)))).supply.supplyState = .onMains
    ∧ (after .returnConfirmation (settled (supplied .starting (part .off)))).line.mode = .joining
    ∧ (after .returnConfirmation (supplied .starting (part .off))).line.mode = .off := by decide

/-- The part in RETURNING with a loss timer reading. -/
def backAfter (seconds : Nat) (s : State) : State :=
  settled { s with supply := { s.supply with supplyState := .returning, lossReading := seconds } }

/-- Chapter 11, at 4.104: MAINS_BACK 4, S 4, Rx 1, RESUME_HEAT with heat 901, base 8, CHARGING. -/
theorem test_warmReturn_rideThrough :
    let t := after .warmReturn (backAfter 4 (after .dropout (unseen four)))
    (t.port.events.drop 2).head? = some (.mainsBack 4)
    ∧ t.context.plan.map (fun p => (p.action, p.still, p.reheat, p.base))
        = some (.run .resumeHeat, some 4, some 1, some 8)
    ∧ t.context.plan.map (fun p => (p.source, p.figures.heat)) = some (.timer, some 901)
    ∧ t.gauge.gaugeState = .charging := by decide

/-- Two steps held, with the spacing and the ramp timers at these counts. -/
def timed (spacing ramp : Nat) : State :=
  { two with admission := { two.admission with spacing := some spacing, ramp := some ramp } }

theorem witness_TimersReachTheirMoments :
    (part .alone).power = .running ∧ (part .alone).supply.lossRunning = false
    ∧ (after .dropout (unseen four)).supply.lossRunning = true
    ∧ (after .dropout (unseen four)).supply.lossTicks < 100
    ∧ ((cfg two).spacing * 100 ≤ 300 ∧ 299 < (cfg two).spacing * 100
        ∧ (timed 300 500).admission.spacing = some 300)
    ∧ ((cfg two).rampInterval * 100 ≤ 500 ∧ 499 < (cfg two).rampInterval * 100
        ∧ (timed 300 500).admission.ramp = some 500)
    ∧ (two.admission.spacing = none ∧ two.admission.ramp = none)
    ∧ four.permits.period = some 0 ∧ 0 < (cfg four).heatPeriod * 100 * four.permits.duty / 4
    ∧ (cfg four).heatPeriod * 100 * four.permits.duty / 4 ≤ 500 := by decide

/-- R45: the loss timer saturates at 65,535. -/
theorem test_lossTimer_saturates :
    let s := after .dropout (unseen four)
    let due := { s with supply := { s.supply with lossTicks := 100 } }
    (after .lossTimerSecond { due with supply := { due.supply with lossReading := 65535 } }).supply.lossReading
      = 65535 ∧ (after .lossTimerSecond due).supply.lossReading = 1 := by decide

theorem test_waitingAge_adds :
    let s := asks 3 two
    (after (.waitingAgeSecond 3) { s with admission := { s.admission with
      pending := s.admission.pending.map fun p => { p with ageTicks := 100 } } }).admission.pending
      = [⟨3, 9, 1, 0⟩] := by decide

/-- R128; R139: a peer's TAKEN of DRUM taken before SPACING_ELAPSED restarts the spacing, which runs on. -/
theorem test_admissionTimers_stop :
    (after .spacingElapsed (timed 300 500)).admission.spacing = none
    ∧ (after .rampElapsed (timed 300 500)).admission.ramp = none
    ∧ (after .spacingElapsed (after (.frameReceived (levels (takenBy 54)) 3) (timed 300 500))).admission.spacing
        = some 0 := by
  decide +kernel

/-! ## Gauge -/

/-- A part whose start-up reading is under way, with a journal N0 of 20,000. -/
def reading : State :=
  { fresh with gauge := { Gauge.initial with gaugeState := .measuring, converting := true, journalN0 := 20000 } }

theorem witness_StartUpReadingEnds :
    reading.power = .running ∧ reading.gauge.gaugeState = .measuring ∧ reading.port.inService = none
    ∧ (after .configure (sentTo .configure (bytesOf wash) reading)).port.inService
        = some (request .configure (bytesOf wash))
    ∧ (3100 : BitVec 16) ≠ 65535 := by decide

/-- The worked conversion of R66 to R68: N1 3,100 gives L 676, and t 1,584 s at h 600. -/
theorem test_startupReadingEnd_ratio :
    (after (.startupReadingEnd 3100) reading).gauge.logRatio = .ratio 676
    ∧ (after (.startupReadingEnd 3100) reading).gauge.gaugeState = .charging
    ∧ gaugeOffTime (.ratio 676) 600 = .seconds 1584 := by decide

theorem test_startupReadingEnd_saturated :
    (after (.startupReadingEnd 65535) reading).gauge.gaugeState = .fault
    ∧ (after (.startupReadingEnd 65535) reading).port.events = [.gaugeFault .saturated] := by decide

theorem witness_LogRatioAndOffTime :
    (24000 : Nat) < 65535 ∧ 4096 ≤ 24000 ∧ 16 ≤ 3960 ∧ 3960 < 24000 ∧ 3960 * 2 ^ 2 ≤ 24000
    ∧ 24000 < 3960 * 2 ^ (2 + 1) ∧ (16 * 2 ^ 8 ≤ 4097 ∧ 4097 < 16 * 2 ^ (8 + 1))
    ∧ 4095 < 4096 ∧ 15 < 16 ∧ 2036 ≤ 2036 := by decide

/-- Chapter 11: L of the three stations, and of the second outage. -/
theorem test_logRatio_walkthrough :
    logRatioOf 24000 (.count 3960) = .ratio 661 ∧ logRatioOf 30000 (.count 5000) = .ratio 661
    ∧ logRatioOf 18000 (.count 3100) = .ratio 646 ∧ logRatioOf 30040 (.count 1900) = .ratio 1012
    ∧ logRatioOf 0 (.count 5) = .unknown := by decide

/-- A charging part with a previous charging count. -/
def charging (previous : Option Nat) (time : Nat) (converting : Bool) : State :=
  { part .alone with gauge := { Gauge.initial with
      gaugeState := .charging, previous := previous, chargingTime := time, chargingTicks := 100,
      converting := converting } }

/-- A part whose refresh timer stands at 6,000. -/
def refreshDue : State := { part .alone with gauge := { (part .alone).gauge with refreshTicks := 6000 } }

theorem witness_ConversionsJudged :
    ((charging none 59 false).gauge.gaugeState = .charging ∧ (charging none 59 false).gauge.chargingTime < 60
      ∧ 100 ≤ (charging none 59 false).gauge.chargingTicks ∧ 99 < 100)
    ∧ ((charging (some 23880) 3 true).gauge.converting = true
      ∧ (23950 : BitVec 16).toNat ≤ 23880 + (23950 : BitVec 16).toNat / 256)
    ∧ ((charging (some 4080) 3 true).gauge.previous = some 4080
      ∧ (4095 : BitVec 16).toNat ≤ 4080 + (4095 : BitVec 16).toNat / 256
      ∧ (4096 : BitVec 16).toNat ≤ 4080 + (4096 : BitVec 16).toNat / 256)
    ∧ ((charging none 60 true).gauge.chargingTime = 60)
    ∧ ((part .alone).gauge.gaugeState = .armed ∧ (part .alone).gauge.converting = false
      ∧ (part .alone).gauge.refreshTicks < 6000 ∧ 6000 ≤ refreshDue.gauge.refreshTicks)
    ∧ ({ part .alone with gauge := { (part .alone).gauge with converting := true } } :
        State).gauge.converting = true ∧ (4095 : BitVec 16).toNat < 4096 ∧ 4096 ≤ (4096 : BitVec 16).toNat := by
  decide

/-- Chapter 11: 23,880 then 23,950 arms; a first count, or one 94 away, does not. -/
theorem test_chargingEnd_arms :
    (after (.chargingConversionEnd 23950) (charging (some 23880) 3 true)).gauge.n0 = 23950
    ∧ (after (.chargingConversionEnd 23950) (charging (some 23880) 3 true)).gauge.gaugeState = .armed
    ∧ (after (.chargingConversionEnd 23950) (charging (some 23856) 3 true)).gauge.gaugeState = .charging := by
  decide

/-- R59, R61, R65: not settled at a charging time of 60, and the count is the previous charging count. -/
theorem test_chargingEnd_notSettled :
    (after (.chargingConversionEnd 23950) (charging none 60 true)).port.events = [.gaugeFault .notSettled]
    ∧ (after (.chargingConversionEnd 23950) (charging (some 9) 60 true)).gauge.previous = some 23950
    ∧ (after (.chargingConversionEnd 4095) (charging (some 4080) 9 true)).gauge.previous = some 4095 := by
  decide

theorem test_chargingStart_counts :
    (after .chargingConversionStart (charging none 59 false)).gauge.chargingTime = 60
    ∧ gaugeDriven (after .chargingConversionStart (charging none 59 false)) = false := by decide

/-- R62: a refresh takes the new count as N0; R57: one abandoned leaves N0 and the refresh timer. -/
theorem test_refresh_count :
    (after (.refreshEnd 24050) (after .refreshStart refreshDue)).gauge.n0 = 24050
    ∧ (after (.refreshEnd 4095) (after .refreshStart refreshDue)).port.events = [.gaugeFault .lowCount]
    ∧ (let g := { (after .refreshStart refreshDue).gauge with refreshTicks := 2 }
      g.release.n0 = 24000 ∧ g.release.refreshTicks = 0 ∧ g.release.converting = false) := by
  decide

/-! ## Plans -/

theorem witness_ReheatExtendsTheHeatFigure :
    (∀ ph ∈ [Phase.heat, .cool, .guarding],
      (makePlan (inState .interrupted (part .alone)) .gauge .over true (cycle ph)).reheat = some 0)
    ∧ (cfg (part .alone)).reheatFactor ≤ 16
    ∧ ({ inState .interrupted (part .alone) with context :=
        { (inState .interrupted (part .alone)).context with still := 65535 } } : State).context.still ≤ 65535 := by
  decide

/-- R74: S 1,584 with factor 6 extends by 594; S 65,535 is capped at 1,200. -/
theorem test_reheat_worked : reheat wash 1584 = 594 ∧ reheat wash 65535 = 1200 := by decide

/-! ## The line -/

theorem witness_AttemptDescribesTheStation :
    (∀ m ∈ [LineMode.banked, .alone, .solo .lineFault],
      let s := idleFor 12 (queued claimFrame (holds 2 2 (part m)))
      s.line.attempt = none ∧ s.line.queue = [claimFrame] ∧ s.line.receiver.idleCount = 12
      ∧ s.settings = some wash ∧ s.line.mode = m)
    ∧ (wash.station < 16 ∧ claimFrame.leaving = false ∧ claimFrame.feederDelta ≤ 255
      ∧ claimFrame.ductDelta ≤ 255 ∧ claimFrame.step ≤ 6 ∧ heldLen six ≤ 6 ∧ ownFeeder six ≤ 4095
      ∧ ownDuct six ≤ 4095 ∧ urgency six ≤ 15)
    ∧ ((idleFor 12 (queued presence (part .joining))).line.mode = .joining ∧ presence.kind = .presence)
    ∧ ((claiming (.holding 6 8 0) six).admission.claim = .holding 6 8 0 ∧ 6 ≤ 6
      ∧ stepFeeder wash 6 ≤ 255 ∧ stepDuct wash 6 ≤ 255 ∧ six.admission.claim = .unannounced) := by decide

/-- The frame of the loss sequence about to be sent. -/
def leavingReady : State := idleFor 12 (queued leavingFrame (part .off))

theorem witness_AttemptDescribesTheStation_off :
    (leavingReady.line.queue = [leavingFrame] ∧ leavingFrame.leaving = true ∧ leavingReady.line.mode = .off
      ∧ leavingReady.line.receiver.idleCount = 12 ∧ leavingReady.supply.supplyState ≠ .dormant
      ∧ leavingReady.line.attempt = none ∧ leavingReady.settings = some wash ∧ leavingFrame.kind ≠ .presence
      ∧ leavingFrame.feederDelta ≤ 255)
    ∧ (attempting claimFrame none (part .alone)).line.attempt ≠ none ∧ (part .alone).line.queue = []
    ∧ (idleFor 11 (queued claimFrame (part .alone))).line.receiver.idleCount ≠ 12
    ∧ ((queued claimFrame (part .joining)).line.mode = .joining ∧ claimFrame.kind ≠ .presence)
    ∧ ((queued claimFrame (part .off)).line.mode = .off ∧ claimFrame.leaving = false)
    ∧ (queued leavingFrame (away .dormant .low)).supply.supplyState = .dormant := by decide

/-- R92, R93: a CLAIM of HEAT1 by station 2, holding 55 and 90 at urgency 8 (A 114, byte 4Eh), RUNNING; R91:
at an idle count of 11 no attempt begins. -/
theorem test_attemptStart_bytes :
    ((after .attemptStart (idleFor 12 (queued claimFrame two))).line.attempt.map (fun a => a.bytes.take 10))
      = some [0x4E, 2, 4, 0, 55, 0, 90, 0x23, 60, 0]
    ∧ (after .attemptStart (idleFor 11 (queued claimFrame two))).line.attempt = none := by decide

theorem witness_LowestArbitrationByteWins : (15 ≤ 15 ∧ 0 ≤ 15) ∧ (0 < 256 ∧ 255 < 256 ∧ 0 < 255) := by decide

/-- A 51 is carried as CCh, its most significant bit first; stations 6, 11 and 2 of chapter 11. -/
theorem test_arbitration_bytes :
    reverseByte (byte8 51) = 204 ∧ arbitrationByte 12 6 = 54 ∧ arbitrationByte 12 11 = 59
    ∧ arbitrationByte 8 2 = 114 := by decide

/-- The levels of byte 0 of the CLAIM above: the start bit, then 72h most significant bit first. -/
theorem test_frameLevels_first :
    (frameLevels [0x4E]) = [false, false, true, true, true, false, false, true, false, true] := by decide

/-- The claim of the part under attempt, and the same with its WITHDRAWN held. -/
def trying : State := attempting claimFrame none (part .banked)
def tryingWithdrawn : State := attempting claimFrame (some withdrawnFrame) (part .banked)

/-- A part with failures counted. -/
def failed (n : Nat) (s : State) : State := { s with line := { s.line with failures := n } }

theorem sound_in {α : Type} (f : α → State) (l : List α) (h : ∀ x ∈ l, lineOk (f x) = true) :
    ∀ x ∈ l, LineSound (f x) := fun x hx => line_of (h x hx)

/-- The modes in which an attempt of a CLAIM can fail. -/
def claimModes : List LineMode := [.banked, .alone, .solo .noPeers, .solo .duplicateStation, .solo .lineFault]

theorem witness_AttemptFails_attempts :
    (∀ m ∈ claimModes, LineSound (failed 7 (attempting claimFrame none (part m))))
    ∧ (∀ m ∈ claimModes, LineSound (failed 7 (attempting claimFrame (some withdrawnFrame) (part m))))
    ∧ LineSound (failed 7 (attempting presence none (part .joining)))
    ∧ LineSound (failed 7 (attempting leavingFrame none (part .off)))
    ∧ (∀ m ∈ claimModes, LineSound (claiming (.sending 3 8) (failed 7 (attempting claimFrame none (part m))))) :=
  ⟨sound_in _ _ (by decide), sound_in _ _ (by decide), line_of (by decide), line_of (by decide),
    sound_in _ _ (by decide)⟩

theorem witness_AttemptFails :
    (trying.line.attempt.map (·.heldWithdrawn) = some none
      ∧ trying.line.attempt.map (fun a => (frameLevels a.bytes)[9]?) = some (some true)
      ∧ trying.line.attempt.map (fun a => (frameLevels a.bytes).getD 0 false) = some false)
    ∧ tryingWithdrawn.line.attempt.map (·.heldWithdrawn) = some (some withdrawnFrame)
    ∧ (9 < 10 ∧ 10 ≤ 119 ∧ 119 < 120 ∧ (failed 6 trying).line.failures < 7 ∧ 7 ≤ (failed 7 trying).line.failures)
    ∧ (∀ m ∈ claimModes, announcedStep (queued claimFrame (part m)) = none)
    ∧ (claimFrame.kind = .claim ∧ claimFrame.step = 3 ∧ withdrawnFrame.kind = .withdrawn) := by decide

theorem witness_AttemptFails_held :
    (∀ m ∈ claimModes, LineSound (heldFor 10 (failed 7 (queued claimFrame (part m)))))
    ∧ LineSound (heldFor 10 (failed 7 (queued presence (part .joining))))
    ∧ LineSound (heldFor 10 (failed 7 (queued leavingFrame (part .off))))
    ∧ (∀ m ∈ claimModes, LineSound (claiming (.sending 3 8) (heldFor 10 (queued claimFrame (part m)))))
    ∧ ((heldFor 9 (queued claimFrame (part .banked))).line.receiver.heldTicks < 10
      ∧ (queued claimFrame (part .joining)).line.mode = .joining
      ∧ (queued leavingFrame (away .dormant .low)).supply.supplyState = .dormant) :=
  ⟨sound_in _ _ (by decide), line_of (by decide), line_of (by decide), sound_in _ _ (by decide), by decide⟩

/-- A CLAIM withdrawn under attempt with seven failures, in every mode an eighth makes a line fault, and with
steps above the cap held. -/
def withdrawnAtEight : List State :=
  [.banked, .alone, .joining, .solo .noPeers].map
      (fun m => failed 7 (attempting claimFrame (some withdrawnFrame) (part m)))
    ++ [failed 7 (attempting claimFrame (some withdrawnFrame) six)]

/-- The entry into SOLO: steps above the cap held, none above it, and a claim above it. -/
theorem witness_AttemptFails_eighth :
    LoadsSound (heldFor 10 (failed 7 (queued claimFrame six))) ∧ 2 + (cfg six).soloCap < heldLen six
    ∧ announcedStep six = none ∧ six.line.queue.length < 4
    ∧ (heldLen two ≤ 2 + (cfg two).soloCap ∧ announcedStep two = none)
    ∧ (heldLen busy ≤ 2 + (cfg busy).soloCap ∧ announcedStep busy = some 4 ∧ 2 + (cfg busy).soloCap < 4)
    ∧ (∀ s ∈ withdrawnAtEight, loadsOk s = true ∧ lineOk s = true ∧ announcedStep s = none
      ∧ 7 ≤ s.line.failures ∧ s.line.attempt.map (·.heldWithdrawn) = some (some withdrawnFrame)) :=
  ⟨loads_of (by decide), by decide⟩

/-- R95, R100, R103: the eighth failure of a withdrawn CLAIM is a line fault, and neither CLAIM nor WITHDRAWN is
left; the entry into SOLO has queued its RELEASED behind it. -/
theorem test_bitError_withdrawnEighth :
    withdrawnAtEight.map (fun s => (after (.bitError 40) s).line.mode) = List.replicate 5 (.solo .lineFault)
    ∧ withdrawnAtEight.map (fun s => (after (.bitError 40) s).line.queue.map (·.kind))
      = [[], [], [], [], [.released]]
    ∧ withdrawnAtEight.map (fun s => (after (.bitError 40) s).line.failures) = List.replicate 5 0 := by decide

/-- R94: the first recessive bit of byte 0 lost leaves the frame and the failure count. -/
theorem test_arbitrationLost_stays :
    (after (.arbitrationLost 2) trying).line.queue = [claimFrame]
    ∧ (after (.arbitrationLost 2) trying).line.attempt = none
    ∧ (after (.arbitrationLost 2) trying).line.failures = 0 := by decide

/-- R95: a misread bit adds a failure; R100: a withdrawn CLAIM is then removed. -/
theorem test_bitError_counts :
    (after (.bitError 40) trying).line.failures = 1
    ∧ (after (.bitError 40) tryingWithdrawn).line.queue = [] := by decide

/-- R95, R103, R138: the eighth failure in ALONE is a line fault, and the steps above the cap go. -/
theorem test_lineHeld_eighth :
    let t := after .lineHeld (heldFor 10 (failed 7 (queued claimFrame six)))
    t.line.mode = .solo .lineFault ∧ heldLen t = 3
    ∧ t.port.events = [.line (.solo .lineFault) .lineFault, .stepLost 4 .soloCap 3] := by decide

/-- R95: the 100 ms start again at each failure, so a second LINE_HELD at that moment counts none. -/
theorem test_lineHeld_once :
    let t := after .lineHeld (heldFor 10 (queued claimFrame (part .banked)))
    t.line.failures = 1 ∧ (after .lineHeld t).line.failures = 1 := by decide

theorem witness_FrameSentIsCounted :
    (LineSound (attempting presence none (part .banked))
      ∧ (attempting presence none (part .banked)).line.queue = [presence] ∧ presence.kind ≠ .claim
      ∧ (part .banked).line.mode ≠ .off ∧ (part .banked).line.mode ≠ .solo .lineFault)
    ∧ (LineSound (attempting leavingFrame none (supplied .holding (part .off)))
      ∧ (part .off).admission.claim = .unannounced)
    ∧ LineSound (attempting presence none (part (.solo .lineFault)))
    ∧ ((∀ m ∈ claimModes, LineSound (claiming (.sending 3 8) (attempting claimFrame none (part m))))
      ∧ claimFrame.kind = .claim ∧ claimFrame.step = 3)
    ∧ ((∀ m ∈ claimModes, LineSound (attempting claimFrame (some withdrawnFrame) (part m)))
      ∧ withdrawnFrame.kind = .withdrawn ∧ (part .banked).admission.claim = .unannounced) :=
  ⟨⟨line_of (by decide), by decide⟩, ⟨line_of (by decide), by decide⟩, line_of (by decide),
    ⟨sound_in _ _ (by decide), by decide⟩, ⟨sound_in _ _ (by decide), by decide⟩⟩

/-- R98, R125: a CLAIM sent starts its hold at 0. -/
theorem test_frameSent_hold :
    (after .frameSent (claiming (.sending 3 8) trying)).admission.claim = .holding 3 8 0
    ∧ (after .frameSent (claiming (.sending 3 8) trying)).line.queue = [] := by decide

/-- R98, R103: a frame sent without error ends the line fault; R98: its frame end comes to nothing. -/
theorem test_frameSent_faultCleared :
    let t := after .frameSent (attempting presence none (part (.solo .lineFault)))
    t.line.mode = .solo .noPeers ∧ t.port.events = [.line (.solo .noPeers) .faultCleared]
    ∧ (after (.frameReceived [] 3) t).line.duplicateMark = false ∧ (after (.frameReceived [] 3) t).view = [] := by
  decide +kernel

/-- What every line mode but OFF may hear: a TAKEN, a CLAIM and a PRESENCE of station 6. -/
theorem witness_PeerFrameWritesTheView :
    (∀ m ∈ [LineMode.alone, .banked, .joining, .solo .noPeers, .solo .lineFault, .solo .duplicateStation],
      LineSound (part m))
    ∧ ((part .alone).line.receiver.AtRest ∧ (part .alone).line.attempt = none)
    ∧ ((takenBy 54).bytes.length = 12 ∧ frameOf (takenBy 54).bytes = some (takenBy 54)
      ∧ (takenBy 54).number ≠ (cfg (part .alone)).station ∧ (takenBy 54).kind = .taken ∧ (takenBy 54).step = 1)
    ∧ frameOf ({ takenBy 54 with kind := .claim } : Frame).bytes = some { takenBy 54 with kind := .claim }
    ∧ frameOf ({ takenBy 54 with kind := .presence, step := 0 } : Frame).bytes
        = some { takenBy 54 with kind := .presence, step := 0 } :=
  ⟨sound_in _ _ (by decide), ⟨rests_of (by decide), rfl⟩, by decide +kernel⟩

/-- R90, R91: a start edge, eight data bits and a dominant stop bit give a character with a framing error, and
no start edge is looked for until the line is recessive again; R91: after twelve characters and 3 recessive bit
times there is a frame end. -/
theorem test_receiver_characters :
    (Receiver.initial.run ([false] ++ List.replicate 8 true ++ [false, false, true])).1.chars = [⟨0xFF, true⟩]
    ∧ (Receiver.initial.run ([false] ++ List.replicate 8 true ++ [false, false, true])).1.character = none
    ∧ ((Receiver.initial.run (levels (takenBy 54) ++ [true, true])).2.length = 0
      ∧ (Receiver.initial.run (levels (takenBy 54) ++ [true, true, true])).2.map (·.chars.length) = [12]) := by
  decide +kernel

/-- R103, R108, R128: station 6's TAKEN of DRUM makes an ALONE station BANKED and restarts the spacing. -/
theorem test_frameReceived_taken :
    let t := after (.frameReceived (levels (takenBy 54)) 3) (part .alone)
    t.view = [⟨6, .present, .running, 40, 0, 1, 12, none, 0⟩] ∧ t.line.mode = .banked
    ∧ t.admission.spacing = some 0 ∧ t.port.events = [.line .banked .peerHeard] := by decide +kernel

theorem witness_OtherFramesReceived :
    (LineSound (part .alone) ∧ LoadsSound (part .alone) ∧ (part .alone).line.receiver.AtRest
      ∧ (part .alone).line.attempt = none)
    ∧ (((takenBy 54).bytes.drop 1).length < 12 ∧ (takenBy 54).bytes.drop 1 ≠ []
      ∧ ((takenBy 54).bytes.set 11 0).length = 12 ∧ frameOf ((takenBy 54).bytes.set 11 0) = none
      ∧ ((takenBy 54).bytes ++ [0]).length = 13 ∧ ((takenBy 54).bytes.drop 1).length = 11)
    ∧ (frameOf (takenBy 114).bytes = some (takenBy 114) ∧ (takenBy 114).number = (cfg (part .alone)).station
      ∧ (part .alone).line.duplicateMark = false)
    ∧ (∀ m ∈ [LineMode.joining, .banked, .solo .noPeers, .solo .lineFault], LineSound (part m))
    ∧ (LineSound (queued leavingFrame (part .off)) ∧ (part .off).line.queue = []) :=
  ⟨⟨line_of (by decide), loads_of (by decide), rests_of (by decide), rfl⟩, by decide +kernel, by decide +kernel,
    sound_in _ _ (by decide), line_of (by decide), rfl⟩

/-- R104: a frame of this station's number that it did not send. -/
theorem test_frameReceived_duplicate :
    let t := after (.frameReceived (levels (takenBy 114)) 3) (part .banked)
    t.line.mode = .solo .duplicateStation ∧ t.line.duplicateMark = true ∧ t.view = [] := by decide +kernel

/-- A join window at a tick, and the presence timer at a tick. -/
def window (ticks : Nat) (s : State) : State :=
  { s with line := { s.line with mode := .joining, joinRunning := true, joinTicks := ticks } }
def quietFor (ticks : Nat) (s : State) : State :=
  { s with line := { s.line with presenceRunning := true, presenceTicks := ticks } }

theorem witness_JoinWindowAndPresence :
    ((window 300 (part .joining)).power = .running ∧ (window 300 (part .joining)).line.mode = .joining
      ∧ 300 ≤ (window 300 (part .joining)).line.joinTicks ∧ 299 < 300 ∧ LoadsSound (window 300 (part .joining)))
    ∧ ((window 20 (part .joining)).line.joinSlotDone = false
      ∧ (cfg (part .joining)).station * 10 ≤ (window 20 (part .joining)).line.joinTicks
      ∧ 19 < (cfg (part .joining)).station * 10)
    ∧ ((part .joining).line.duplicateMark = false ∧ (part .joining).view = [] ∧ (cfg (part .joining)).bankSize ≠ 1)
    ∧ ((quietFor 200 (part .banked)).line.mode ≠ .off ∧ 200 ≤ (quietFor 200 (part .banked)).line.presenceTicks
      ∧ 199 < 200 ∧ (part .banked).line.presenceRunning = false) :=
  ⟨⟨rfl, rfl, by decide, by decide, loads_of (by decide)⟩, by decide⟩

/-- R102: the window's end in a bank of 3 with no peer heard, and with one. -/
theorem test_joinWindowEnd_modes :
    (after .joinWindowEnd (window 300 (part .joining))).line.mode = .solo .noPeers
    ∧ (after .joinWindowEnd (sees [peer] (window 300 (part .joining)))).line.mode = .banked
    ∧ (after .joinWindowEnd (sees [peer] (window 300 (part .joining)))).port.events = [.line .banked .joinEnd] := by
  decide

theorem test_joinSlot_presence :
    (after .joinSlot (window 20 (part .joining))).line.queue = [presence]
    ∧ (after .joinSlot (after .joinSlot (window 20 (part .joining)))).line.queue = [presence]
    ∧ (after .joinSlot (window 19 (part .joining))).line.queue = [] := by decide

/-- R99, R101: a PRESENCE is not queued behind another frame. -/
theorem test_presenceDue_queue :
    let s := quietFor 200 (part .banked)
    (after .presenceDue s).line.queue = [presence]
    ∧ (after .presenceDue (queued claimFrame s)).line.queue = [claimFrame] := by decide

/-- The peer at an age since it was last heard, and the peer silent for some ticks. -/
def unheard (age : Nat) : PeerEntry := { peer with heardAge := age }
def gone (age : Nat) : PeerEntry := { peer with status := .silent age }

theorem witness_PeersFallSilentAndLeave :
    (LineSound (sees [unheard 600] (part .banked)) ∧ LoadsSound (sees [unheard 600] (part .banked))
      ∧ ClaimSound (sees [unheard 600] (part .banked)) ∧ (unheard 600).status = .present
      ∧ 600 ≤ (unheard 600).heardAge ∧ (unheard 599).heardAge < 600)
    ∧ (LineSound (sees [gone 12000] (part .banked)) ∧ LineSound (sees [gone 12000] (part (.solo .lineFault)))
      ∧ ClaimSound (sees [gone 12000] (part .banked)) ∧ (gone 12000).status = .silent 12000
      ∧ (gone 11999).status = .silent 11999 ∧ 11999 < 12000)
    ∧ LineSound (sees [gone 12000, { peer with number := 11 }] (part .banked)) :=
  ⟨⟨line_of (by decide), loads_of (by decide), claim_of (by decide), by decide⟩,
    ⟨line_of (by decide), line_of (by decide), claim_of (by decide), by decide⟩, line_of (by decide)⟩

/-- R111: a silent peer's totals still count and its claim does not; R113: a frame taken first keeps it. -/
theorem test_peerSilent_claim :
    let s := sees [{ unheard 600 with claim := some ⟨3, 60, 0, 54⟩ }] (part .banked)
    (after (.peerSilent 6) s).view = [{ peer with status := .silent 0, heardAge := 600 }]
    ∧ peersFeeder (after (.peerSilent 6) s) = 55
    ∧ (after (.peerSilent 6) (after (.frameReceived (levels (takenBy 54)) 3) s)).view.map (·.status) = [.present] := by
  decide +kernel

/-- R112, R103: the last peer leaves a bank of 3. -/
theorem test_peerRemoved_last :
    (after (.peerRemoved 6) (sees [gone 12000] (part .banked))).line.mode = .solo .noPeers
    ∧ (after (.peerRemoved 6) (sees [gone 12000] (part .banked))).view = []
    ∧ (after (.peerRemoved 6) (sees [gone 11999] (part .banked))).view = [gone 11999] := by decide

/-- Six steps held in a bank whose feeder limit is 294, one below their demand. -/
def overfull : State := { six with settings := some { wash with feederLimit := 294 } }

/-- AIR claimed beside a peer whose duct leaves no room for it, and one whose duct does. -/
def airBeside (duct : Nat) (c : Claim) : State :=
  claiming c (sees [{ peer with duct := duct }] (asks 2 (holds 1 1 (inState .running (part .banked)))))

theorem witness_ViewChangeReachesAdmission :
    (∀ c ∈ [Claim.holding 2 8 3, .sending 2 8, .unannounced], ∀ d ∈ [210, 211],
      loadsOk (airBeside d c) = true ∧ lineOk (airBeside d c) = true ∧ claimOk (airBeside d c) = true)
    ∧ (TestPasses (airBeside 210 (.sending 2 8)) 2 114 ∧ ¬ TestPasses (airBeside 211 (.sending 2 8)) 2 114)
    ∧ (Fits (airBeside 210 (.holding 2 8 3)) 2 114 ∧ ¬ Fits (airBeside 211 (.holding 2 8 3)) 2 114)
    ∧ (LoadsSound overfull ∧ LineSound overfull ∧ ClaimSound overfull ∧ MustShed overfull
      ∧ overfull.admission.shedSettle = none) :=
  ⟨by decide, ⟨passes_of (by decide), fails_of (by decide)⟩,
    ⟨(fits_iff _ _ _).mp (by decide), fun t => absurd ((fits_iff _ _ _).mpr t) (by decide)⟩,
    loads_of (by decide), line_of (by decide), claim_of (by decide), sheds_of (by decide), by decide⟩

/-- R124, R125, R135, R137: what a view change does to a HOLDING claim, and to a bank over its limits. -/
theorem test_viewChange_reaches :
    (viewChange (airBeside 211 (.holding 2 8 3))).admission.claim = .unannounced
    ∧ (viewChange (airBeside 211 (.holding 2 8 3))).line.queue = [⟨.withdrawn, 2, 15, 90, false⟩]
    ∧ (viewChange (airBeside 210 (.holding 2 8 3))).admission.claim = .holding 2 8 3
    ∧ heldLen (viewChange overfull) = 5
    ∧ (viewChange (airBeside 301 .unannounced)).port.events = [.overcommit 301 300] := by decide

/-! ## Admission -/

/-- The demand of a heater of 250 in quarters (chapter 0). -/
theorem test_quarters : [1, 2, 3, 4].map (quarter 250) = [62, 63, 62, 63] := by decide

theorem witness_AdmissionTestClaims :
    ((asks 3 two).power = .running ∧ LineSound (asks 3 two) ∧ (asks 3 two).admission.claim = .unannounced
      ∧ (asks 3 two).admission.pending = [⟨3, 9, 0, 0⟩] ∧ (asks 3 two).admission.testAtTick = false
      ∧ withdrawnUnderAttempt (asks 3 two) = false
      ∧ TestPasses (asks 3 two) 3 ((15 - 8) * 16 + 2) ∧ ¬ TestPasses (airBeside 211 .unannounced) 2 114)
    ∧ (LineSound (asks 2 (holds 1 1 (part .banked))) ∧ LineSound (asks 1 (part (.solo .noPeers))))
    ∧ withdrawnUnderAttempt (asks 3 tryingWithdrawn) = true :=
  ⟨⟨rfl, line_of (by decide), by decide, by decide, by decide, by decide, passes_of (by decide),
    fails_of (by decide)⟩, ⟨line_of (by decide), line_of (by decide)⟩, by decide⟩

/-- R124: station 2's CLAIM of DRUM at urgency 8 carries 40. -/
theorem test_admissionTest_claims :
    let t := after .admissionTest (asks 1 (inState .resuming (part .banked)))
    t.admission.claim = .sending 1 8 ∧ t.line.queue = [⟨.claim, 1, 40, 0, false⟩] := by decide

/-- Chapter 11: station 2's AIR sees 180 of duct taken and fits a limit of 300, but not one of 250. -/
theorem test_admissionTest_duct :
    let s := sees [peer, { peer with number := 11 }] (asks 2 (holds 1 1 (inState .running (part .banked))))
    (after .admissionTest s).admission.claim = .sending 2 8
    ∧ (after .admissionTest { s with settings := some { wash with ductLimit := 250 } }).admission.claim
        = .unannounced := by decide

/-- A claim at the end of its hold, with the steps below it held in RUNNING. -/
def holdOver (n : Nat) : State :=
  claiming (.holding n 8 30) (asks n (holds (n - 1) (n - 1) (inState .running (part .banked))))

theorem witness_HoldExpires :
    (∀ n ∈ [1, 2, 3, 4, 6], (holdOver n).power = .running ∧ LineSound (holdOver n) ∧ LoadsSound (holdOver n)
      ∧ ClaimSound (holdOver n) ∧ (holdOver n).admission.claim = .holding n 8 30
      ∧ (holdOver n).admission.pending = [⟨n, 9, 0, 0⟩]
      ∧ TestPasses (holdOver n) n 114 ∧ (holdOver n).context.cycleState = .running)
    ∧ (LineSound (airBeside 211 (.holding 2 8 30)) ∧ ¬ TestPasses (airBeside 211 (.holding 2 8 30)) 2 114)
    ∧ ((holdOver 3).permits.duty = 0 ∧ 1 ≤ (holdOver 4).permits.duty ∧ 29 < 30) := by
  refine ⟨?_, ⟨line_of (by decide), fails_of (by decide)⟩, by decide⟩
  simp only [List.mem_cons, List.not_mem_nil, or_false]
  rintro n (rfl | rfl | rfl | rfl | rfl) <;>
    exact ⟨rfl, line_of (by decide), loads_of (by decide), claim_of (by decide), rfl, rfl, passes_of (by decide), rfl⟩

/-- R126, R144: HEAT1 granted at a duty of 0 starts the period, and the heat output is high. -/
theorem test_holdExpiry_heat :
    let t := after .holdExpiry (claiming (.holding 3 8 30) (asks 3 two))
    t.permits.duty = 1 ∧ t.permits.period = some 0 ∧ t.permits.heat = true ∧ t.admission.ramp = some 0
    ∧ t.line.queue = [⟨.taken, 3, 60, 0, false⟩] ∧ t.port.events = [.completion 9 3 .granted 3 0] := by decide

/-- DRUM at the end of its hold in RESUMING, with these figures and this S. -/
def grantDue (p : Progress) (still : Nat) : State :=
  let s := claiming (.holding 1 8 30) (asks 1 (inState .resuming (part .banked)))
  { s with context := { s.context with progress := some p, still := still } }

theorem witness_DrumGrantFinalises :
    let s := grantDue (cycle .heat) 1565
    (s.power = .running ∧ LoadsSound s ∧ LineSound s ∧ ClaimSound s ∧ ExchangeSound s
      ∧ s.admission.claim = .holding 1 8 30 ∧ s.admission.pending = [⟨1, 9, 0, 0⟩])
    ∧ TestPasses s 1 ((15 - 8) * 16 + (cfg s).station)
    ∧ (s.context.cycleState = .resuming ∧ s.context.progress = some (cycle .heat) ∧ s.context.plan = some plan) :=
  ⟨⟨rfl, loads_of (by decide), line_of (by decide), claim_of (by decide), exchange_of (by decide), rfl, rfl⟩,
    passes_of (by decide), rfl, rfl, rfl⟩

/-- The four rows that a drum grant can finalise by, and a GUARD whose S has reached its remaining time. -/
theorem witness_DrumGrantFinalises_rows :
    (tableRow wash (cycle .heat) 1565).map (·.action) = some .resumeHeat
    ∧ (tableRow wash (cycle .cool) 600).map (·.action) = some .resumeCool
    ∧ (tableRow wash (cycle .guarding) 600).map (·.action) = some .resumeGuard
    ∧ (tableRow wash (cycle .cool) 601).map (·.action) = some .relief
    ∧ (tableRow wash (cycle .guarding) 900).map (·.action) = none
    ∧ ExchangeSound (stillDue (grantDue (cycle .guarding) 899)) :=
  ⟨by decide, by decide, by decide, by decide, by decide, exchange_of (by decide)⟩

/-- Chapter 11: station 2's grant at S 1,565 gives RUNNING with heat 1,486, cool 600, guard 900, base 8. -/
theorem test_holdExpiry_finalises :
    let t := after .holdExpiry (grantDue (cycle .heat) 1565)
    t.context.cycleState = .running ∧ t.context.progress = some ⟨1204, .heat, 1486, 600, 900⟩
    ∧ t.context.base = 8 ∧ t.context.still = 0
    ∧ t.journal.inFlight.map (·.record.body.reason) = some (.finalAction .resumeHeat) := by decide

/-- R84, R85: the grant taken before the second that brings S to R finalises with S 900 and the guard figure 0. -/
theorem test_holdExpiry_guardRunOut :
    let t := after .holdExpiry (stillDue (grantDue (cycle .guarding) 899))
    t.context.cycleState = .running ∧ t.context.progress = some ⟨1204, .guarding, 0, 0, 0⟩ ∧ t.context.base = 6 := by
  decide

/-- The overfull bank with its settle timer at a count. -/
def crowded (settle : Nat) : State :=
  { overfull with admission := { overfull.admission with shedSettle := some settle } }

theorem witness_ShedSettleExpires :
    ((crowded 200).power = .running ∧ (crowded 200).admission.shedSettle = some 200 ∧ LoadsSound (crowded 200)
      ∧ LineSound (crowded 200) ∧ ClaimSound (crowded 200) ∧ MustShed (crowded 200) ∧ 199 < 200)
    ∧ ¬ MustShed six
    ∧ (LoadsSound (holds 6 5 (crowded 200)) ∧ ClaimSound (holds 6 5 (crowded 200))
      ∧ (holds 6 5 (crowded 200)).admission.held.getLast?.map (·.mark) = some true)
    ∧ ((crowded 200).admission.held.getLast?.map (·.mark) = some false ∧ outstanding (crowded 200) < 8
      ∧ outstanding (crowded 200) + eventsWaiting (crowded 200) < 16)
    ∧ 16 ≤ outstanding (withEvents 16 (crowded 200)) + eventsWaiting (withEvents 16 (crowded 200)) :=
  ⟨⟨rfl, rfl, loads_of (by decide), line_of (by decide), claim_of (by decide), sheds_of (by decide), by decide⟩,
    keeps_of (by decide), ⟨loads_of (by decide), claim_of (by decide), by decide⟩, by decide, by decide⟩

/-- R135, R146: the top heat step is shed, put back under its tag, and the heat output blanked. -/
theorem test_shedSettleExpiry_sheds :
    let t := after .shedSettleExpiry (crowded 200)
    heldLen t = 5 ∧ t.admission.pending = [⟨6, 1, 0, 0⟩] ∧ t.permits.blank = true ∧ t.permits.duty = 3
    ∧ t.port.events = [.stepLost 6 .shed 5] := by decide

/-- R135 step 2: with no room, or with a release mark, it is not put back; R134: without room EVENTS_LOST. -/
theorem test_shedSettleExpiry_noRoom :
    let t := after .shedSettleExpiry (withEvents 16 (crowded 200))
    heldLen t = 5 ∧ t.admission.pending = [] ∧ t.port.eventsLost = true
    ∧ (after .shedSettleExpiry (holds 6 5 (crowded 200))).admission.pending = [] := by decide

/-! ## The heat period and the door -/

/-- The part at a count of its heat period. -/
def periodAt (n : Nat) (s : State) : State := { s with permits := { s.permits with period := some n } }

theorem witness_HeatPeriodStarts :
    (six.power = .running ∧ LoadsSound (periodAt 999 six) ∧ (periodAt 999 six).permits.period = some 999
      ∧ (cfg six).heatPeriod * 100 ≤ 999 + 1 ∧ 998 + 1 < (cfg six).heatPeriod * 100)
    ∧ (LoadsSound (periodAt 999 (holds 6 2 two)) ∧ LoadsSound (periodAt 999 (holds 6 4 two))
      ∧ announcedStep (holds 6 4 two) = none ∧ (holds 6 4 two).line.queue.length < 4) :=
  ⟨⟨rfl, loads_of (by decide), rfl, by decide⟩, loads_of (by decide), loads_of (by decide), by decide⟩

/-- R145: the marked steps 5 and 6 go, the duty is 2, and the on-time of a 10 s period is 500 ticks. -/
theorem test_heatPeriodStart_marked :
    let t := after .heatPeriodStart (periodAt 999 (holds 6 4 two))
    heldLen t = 4 ∧ t.permits.duty = 2 ∧ t.permits.heat = true ∧ currentOnTime t = 500
    ∧ t.line.queue = [⟨.released, 6, 120, 0, false⟩] := by decide

/-- R143: the heat output falls at the on-time, not before it. -/
theorem test_onTimeEnd_low :
    let s := after .heatPeriodStart (periodAt 999 (holds 3 3 two))
    s.permits.heat = true ∧ (after .onTimeEnd (periodAt 250 s)).permits.heat = false
    ∧ (after .onTimeEnd (periodAt 249 s)).permits.heat = true := by decide

/-- The part with its door open and nothing held. -/
def opened : State := { part .alone with permits := { (part .alone).permits with doorOpen := true } }

/-- The raw DOOR level after some ticks on which it differed from the reading. -/
def doorAt (raw : Bool) (count : Nat) (s : State) : State :=
  { s with permits := { s.permits with doorRaw := raw, doorCount := count } }

theorem witness_DoorReadingChanges :
    (doorAt true 2 two).power = .running ∧ (doorAt true 2 two).permits.doorOpen = false
    ∧ (doorAt true 2 two).permits.doorRaw = true ∧ 2 ≤ (doorAt true 2 two).permits.doorCount
    ∧ (doorAt true 1 two).permits.doorCount < 2 ∧ 1 ≤ heldLen two ∧ two.line.mode ≠ .off
    ∧ two.line.queue.length < 4 ∧ announcedStep two = none ∧ heldLen (asks 1 (part .alone)) = 0
    ∧ (announcedStep busy = some 4 ∧ busy.permits.doorOpen = false)
    ∧ (doorAt false 2 opened).permits.doorOpen = true ∧ (doorAt false 2 opened).permits.doorRaw = false := by
  decide

/-- R149, R134: everything is released, STEP_LOST for DRUM with the cause DOOR, then DOOR_OPEN. -/
theorem test_doorOpening_drops :
    let t := after .doorOpening (doorAt true 2 (asks 3 two))
    t.permits.drum = false ∧ t.admission.held = [] ∧ t.context.doorSeen = true
    ∧ t.port.events = [.stepLost 1 .door 0, .completion 9 3 .doorOpen 3 0] := by decide

theorem test_doorClosing_closes :
    (after .doorClosing (doorAt false 2 opened)).permits.doorOpen = false
    ∧ (after .doorClosing (doorAt false 1 opened)).permits.doorOpen = true := by decide

/-! ## Time -/

/-- R37: the third tick without a pulse is a dropout. -/
theorem test_tick_dropout :
    (idle { part .alone with supply := { (part .alone).supply with absence := 2 } }).pending.getLast? = some .dropout
    ∧ (idle { part .alone with supply := { (part .alone).supply with absence := 1 } }).supply.absence = 2 := by
  decide

/-- R39: the fiftieth counting tick confirms the return. -/
theorem test_tick_confirmation :
    let s := supplied .starting (part .off)
    (idle { s with supply := { s.supply with settle := 49, settleOpen := true, pulseSeen := true } }).pending
      = [.returnConfirmation] := by decide

/-- R125: the thirtieth tick of a hold expires it. -/
theorem test_tick_hold :
    (idle { claiming (.holding 3 8 29) (asks 3 two) with supply :=
      { (part .alone).supply with pulseSeen := true } }).pending.getLast? = some .holdExpiry := by decide

/-- R148: a raw level that differs at one tick and not at the next is no opening; at two ticks it is. -/
theorem test_tick_door :
    let bounce (l : List Bool) : State := { part .alone with permits := { (part .alone).permits with doorInput := l } }
    (idle (bounce [true])).permits.doorCount = 1
    ∧ (tick (tick (bounce [true, false]))).permits.doorCount = 0
    ∧ (tick (tick (bounce [true, true]))).pending.contains .doorOpening = true := by decide

/-- R95: the tenth tick on which a frame waits for a held line; R91: a quiet line brings the idle count to 12. -/
theorem test_tick_line :
    (tick (heldFor 9 (queued claimFrame (part .banked)))).pending.contains .lineHeld = true
    ∧ (tick (part .banked)).pending.contains (.frameReceived [] 200) = true
    ∧ (after (.frameReceived [] 200) (part .banked)).line.receiver.idleCount = 12 := by decide +kernel

/-- R1, R32: from reset, with nothing commanded, the recovery scan comes first. -/
theorem test_idle_reset :
    step State.reset = .next { State.reset with pending := [.recoveryScan] } := by rfl

end Sys2Proof.Tests
end

section
/-! The Timebase on an empty queue: what follows at once, what a tick writes in the words of the manual, and
when each of its commands falls due. -/

namespace Sys2Proof.Machine

variable {s : State}

/-! ## The conditions a tick reads -/

theorem settling_eq (p : Supply) :
    settling p = decide (p.supplyState = .starting ∨ p.supplyState = .returning) := by
  unfold settling
  cases p.supplyState <;> rfl

theorem presentAtTick_iff (p : Supply) : presentAtTick p = true ↔ p.pulseSeen = true ∨ p.absence < 2 := by
  have within_limit : p.absence + 1 < 3 ↔ p.absence < 2 := by omega
  simp [presentAtTick, Config.absenceLimit, within_limit]

theorem chargingRuns_eq (g : Gauge) :
    chargingRuns g = decide (g.gaugeState = .charging ∧ g.chargingTime < 60) := by
  unfold chargingRuns Config.chargingLimit
  cases g.gaugeState <;> simp

theorem heldOff_iff :
    heldOff s = true ↔ waitingFrame s ≠ none ∧ s.line.receiver.idleCount < 12 := by
  rw [heldOff, Bool.and_eq_true, decide_eq_true_eq, Option.isSome_iff_ne_none]
  exact Iff.rfl

theorem slotReached_iff :
    slotReached s = true ↔ s.line.mode = .joining ∧ s.line.joinRunning = true ∧ s.line.joinSlotDone = false
      ∧ (cfg s).station * 10 ≤ s.line.joinTicks := by
  unfold slotReached slotTicks Config.joinSlotTicks
  simp only [Bool.and_eq_true, beq_iff_eq, Bool.not_eq_true', decide_eq_true_eq, and_assoc]

theorem attemptReady_iff :
    attemptReady s = true ↔ waitingFrame s ≠ none ∧ s.line.receiver.idleCount = 12 := by
  rw [attemptReady, Bool.and_eq_true, decide_eq_true_eq, Option.isSome_iff_ne_none]
  exact Iff.rfl

/-! ## What follows at once on an empty queue -/

theorem step_empty (h : s.pending = []) : step s = .next (idle s) := by simp only [step, h]

theorem idle_unpowered (hp : s.power = .unpowered) : idle s = s := by simp only [idle, hp]

theorem idle_scanning (hp : s.power = .scanning) : idle s = { s with pending := [.recoveryScan] } := by
  simp only [idle, hp]

theorem idle_resetHeld_rest (hp : s.power = .resetHeld) (hw : s.journal.inFlight = none) : idle s = s := by
  simp [idle, hp, hw]

theorem idle_resetHeld_writing {f : InFlight} (hp : s.power = .resetHeld) (hw : s.journal.inFlight = some f) :
    idle s = { s with pending := [.writeComplete] } := by
  simp [idle, hp, hw]

theorem idle_of_immediate {c : Instr} (hp : s.power = .running) (hc : immediate s = some c) :
    idle s = { s with pending := [c] } := by
  simp only [idle, hp, hc]

theorem idle_of_nothing_immediate (hp : s.power = .running) (hc : immediate s = none) : idle s = tick s := by
  simp only [idle, hp, hc]

theorem immediate_of_request {r : Request} {rest : List Request} (hs : s.port.inService = none)
    (hr : s.port.requests = r :: rest) : immediate s = some (serviceCommand r) := by
  simp only [immediate, hs, hr]

/-- With no request to serve, the join slot comes before an attempt, and an attempt before a write's end. -/
theorem immediate_of_no_request (h : s.port.inService ≠ none ∨ s.port.requests = []) :
    immediate s =
      if slotReached s then some .joinSlot
      else if attemptReady s then some .attemptStart
      else if s.journal.inFlight.isSome then some .writeComplete
      else none := by
  unfold immediate
  split
  next r rest hs hr => simp [hs, hr] at h
  next => rfl

/-! ## What a tick writes -/

theorem settleNext_eq (p : Supply) :
    settleNext p =
      if (p.supplyState = .starting ∨ p.supplyState = .returning) ∧ p.settleOpen = true
          ∧ (p.pulseSeen = true ∨ p.absence < 2)
      then min 50 (p.settle + 1) else p.settle := by
  simp only [settleNext, Bool.and_eq_true, settling_eq, decide_eq_true_eq, presentAtTick_iff, and_assoc,
    Config.settleLimit]

theorem heldNext_eq :
    heldNext s =
      if waitingFrame s ≠ none ∧ s.line.receiver.idleCount < 12
      then min 10 (s.line.receiver.heldTicks + 1) else 0 := by
  simp only [heldNext, heldOff_iff, Config.heldTicks]

theorem doorNext_eq (p : Permits) :
    doorNext p = if rawDoor p = p.doorOpen then 0 else min 2 (p.doorCount + 1) := by
  by_cases h : rawDoor p = p.doorOpen <;> simp [doorNext, h, Config.doorTicks]

theorem tickSupply_eq (p : Supply) :
    tickSupply p = { p with
      pulseSeen := false
      absence := if p.pulseSeen then p.absence else min 3 (p.absence + 1)
      settle :=
        if (p.supplyState = .starting ∨ p.supplyState = .returning) ∧ p.settleOpen = true
            ∧ (p.pulseSeen = true ∨ p.absence < 2)
        then min 50 (p.settle + 1) else p.settle
      settleOpen := p.settleOpen || decide (p.supplyState = .starting ∨ p.supplyState = .returning)
      lossTicks := if p.lossRunning then min 100 (p.lossTicks + 1) else p.lossTicks } := by
  rw [tickSupply, settleNext_eq, settling_eq]
  rfl

theorem tickGauge_eq (g : Gauge) :
    tickGauge g = { g with
      chargingTicks :=
        if g.gaugeState = .charging ∧ g.chargingTime < 60 then min 100 (g.chargingTicks + 1)
        else g.chargingTicks
      refreshTicks := if g.gaugeState = .armed then min 6000 (g.refreshTicks + 1) else g.refreshTicks } := by
  unfold tickGauge tickCount
  simp only [chargingRuns_eq, decide_eq_true_eq, beq_iff_eq]
  rfl

theorem tickLine_eq :
    tickLine s = { s.line with
      presenceTicks :=
        if s.line.presenceRunning then min 200 (s.line.presenceTicks + 1) else s.line.presenceTicks
      joinTicks := if s.line.joinRunning then min 300 (s.line.joinTicks + 1) else s.line.joinTicks
      receiver := { s.line.receiver with
        heldTicks :=
          if waitingFrame s ≠ none ∧ s.line.receiver.idleCount < 12
          then min 10 (s.line.receiver.heldTicks + 1) else 0 } } := by
  rw [tickLine, heldNext_eq]
  rfl

theorem tickPermits_eq :
    tickPermits s = { s.permits with
      period := s.permits.period.map fun n => if n + 1 < (cfg s).heatPeriod * 100 then n + 1 else n
      doorRaw := rawDoor s.permits
      doorInput := s.permits.doorInput.tail
      doorCount := if rawDoor s.permits = s.permits.doorOpen then 0 else min 2 (s.permits.doorCount + 1) } := by
  rw [tickPermits, doorNext_eq]
  rfl

/-! ## When a command falls due -/

@[simp] theorem mem_whenDue {due : Bool} {c d : Instr} : d ∈ whenDue due c ↔ due = true ∧ d = c := by
  cases due <;> simp [whenDue]

@[simp] theorem mem_peerDue {e : PeerEntry} {c : Instr} :
    c ∈ e.due ↔ (c = .peerSilent e.number ∧ e.status = .present ∧ 599 ≤ e.heardAge)
      ∨ ∃ age, c = .peerRemoved e.number ∧ e.status = .silent age ∧ 11999 ≤ age := by
  unfold PeerEntry.due
  cases e.status <;> simp [Config.silentTicks, Config.removedTicks, and_comm]

@[simp] theorem mem_periodDue {c : Instr} :
    c ∈ periodDue s ↔ ∃ n, s.permits.period = some n
      ∧ ((periodLimit s ≤ n + 1 ∧ c = .heatPeriodStart)
        ∨ (n + 1 < periodLimit s ∧ n + 1 = currentOnTime s ∧ c = .onTimeEnd)) := by
  unfold periodDue
  cases s.permits.period with
  | none => simp
  | some n =>
    by_cases h : periodLimit s ≤ n + 1
    · simp [h, Nat.not_lt.mpr h]
    · simp [h, Nat.lt_of_not_le h]

@[simp] theorem mem_doorDue {p : Permits} {c : Instr} :
    c ∈ doorDue p ↔
      (rawDoor p = true ∧ p.doorOpen = false ∧ 1 ≤ p.doorCount ∧ c = .doorOpening)
      ∨ (rawDoor p = false ∧ p.doorOpen = true ∧ 1 ≤ p.doorCount ∧ c = .doorClosing) := by
  rw [doorDue, mem_whenDue, doorNext_eq]
  unfold Config.doorTicks
  cases rawDoor p <;> cases p.doorOpen <;> simp

@[simp] theorem mem_confirmationDue {p : Supply} {c : Instr} :
    c ∈ confirmationDue p ↔
      (p.supplyState = .starting ∧ 50 ≤ settleNext p ∧ c = .returnConfirmation)
      ∨ (p.supplyState = .returning ∧ 50 ≤ settleNext p ∧ c = .warmReturn) := by
  unfold confirmationDue settling Config.settleLimit
  cases p.supplyState <;> simp [and_comm]

theorem holdDue_iff (a : Claim) : holdDue a = true ↔ ∃ n u k, a = .holding n u k ∧ 29 ≤ k := by
  cases a <;> simp [holdDue, Config.holdTicks]

theorem dropoutDue_iff (p : Supply) : dropoutDue p = true ↔ p.pulseSeen = false ∧ p.absence = 2 := by
  simp [dropoutDue, Config.absenceLimit]

theorem lineHeldDue_iff :
    (heldOff s && decide (Config.heldTicks ≤ heldNext s)) = true ↔
      (waitingFrame s ≠ none ∧ s.line.receiver.idleCount < 12) ∧ 9 ≤ s.line.receiver.heldTicks := by
  rw [Bool.and_eq_true, decide_eq_true_eq, heldOff_iff, heldNext_eq]
  refine and_congr_right fun held => ?_
  rw [if_pos held]
  simp [Config.heldTicks]

/-- The sources of a tick's commands, in the model's order (log entry 7). -/
theorem mem_dueCommands {c : Instr} :
    c ∈ dueCommands s ↔
      (countDue s.supply.lossRunning Config.ticksPerSecond s.supply.lossTicks = true ∧ c = .lossTimerSecond)
      ∨ (countDue (stillRuns s) Config.ticksPerSecond s.context.stillTicks = true ∧ c = .stillTimerSecond)
      ∨ (countDue s.context.freshRunning (staleTicks s) s.context.freshTicks = true ∧ c = .freshnessExpiry)
      ∨ (countDue s.journal.intervalRunning (intervalLimit s) s.journal.intervalTicks = true
          ∧ c = .journalInterval)
      ∨ (countDue (chargingRuns s.gauge) Config.ticksPerSecond s.gauge.chargingTicks = true
          ∧ c = .chargingConversionStart)
      ∨ (countDue (s.gauge.gaugeState == .armed) Config.refreshTicks s.gauge.refreshTicks = true
          ∧ c = .refreshStart)
      ∨ (s.line.attempt.isSome = true ∧ c = .frameSent)
      ∨ (lineRests s.line = true ∧ c = .frameReceived [] Config.tickBits)
      ∨ ((heldOff s && decide (Config.heldTicks ≤ heldNext s)) = true ∧ c = .lineHeld)
      ∨ (∃ e ∈ s.view, c ∈ e.due)
      ∨ (∃ p ∈ s.admission.pending,
          countDue true Config.ticksPerSecond p.ageTicks = true ∧ c = .waitingAgeSecond p.step)
      ∨ (timerDue (spacingLimit s) s.admission.spacing = true ∧ c = .spacingElapsed)
      ∨ (timerDue (rampLimit s) s.admission.ramp = true ∧ c = .rampElapsed)
      ∨ (timerDue Config.shedSettleTicks s.admission.shedSettle = true ∧ c = .shedSettleExpiry)
      ∨ c ∈ periodDue s
      ∨ (countDue s.line.presenceRunning Config.presenceTicks s.line.presenceTicks = true ∧ c = .presenceDue)
      ∨ (countDue s.line.joinRunning Config.joinWindowTicks s.line.joinTicks = true ∧ c = .joinWindowEnd)
      ∨ (claimState s = .waitRoom ∧ c = .admissionTest)
      ∨ (holdDue s.admission.claim = true ∧ c = .holdExpiry)
      ∨ c ∈ doorDue s.permits
      ∨ (dropoutDue s.supply = true ∧ c = .dropout)
      ∨ c ∈ confirmationDue s.supply := by
  unfold dueCommands
  simp only [List.mem_append, List.mem_flatMap, mem_whenDue, decide_eq_true_eq, or_assoc]

theorem dropout_mem_dueCommands :
    .dropout ∈ dueCommands s ↔ s.supply.pulseSeen = false ∧ s.supply.absence = 2 := by
  simp [mem_dueCommands, dropoutDue_iff]

theorem returnConfirmation_mem_dueCommands :
    .returnConfirmation ∈ dueCommands s ↔
      s.supply.supplyState = .starting ∧ 50 ≤ (tickSupply s.supply).settle := by
  simp [mem_dueCommands, tickSupply]

theorem warmReturn_mem_dueCommands :
    .warmReturn ∈ dueCommands s ↔
      s.supply.supplyState = .returning ∧ 50 ≤ (tickSupply s.supply).settle := by
  simp [mem_dueCommands, tickSupply]

theorem peerSilent_mem_dueCommands {n : Nat} :
    .peerSilent n ∈ dueCommands s ↔
      ∃ e ∈ s.view, e.number = n ∧ e.status = .present ∧ 599 ≤ e.heardAge := by
  simp [mem_dueCommands, eq_comm (a := n)]

theorem peerRemoved_mem_dueCommands {n : Nat} :
    .peerRemoved n ∈ dueCommands s ↔
      ∃ e ∈ s.view, ∃ age, e.number = n ∧ e.status = .silent age ∧ 11999 ≤ age := by
  simp [mem_dueCommands, eq_comm (a := n)]

theorem holdExpiry_mem_dueCommands :
    .holdExpiry ∈ dueCommands s ↔ ∃ n u k, s.admission.claim = .holding n u k ∧ 29 ≤ k := by
  simp [mem_dueCommands, holdDue_iff]

theorem lineHeld_mem_dueCommands :
    .lineHeld ∈ dueCommands s ↔
      (waitingFrame s ≠ none ∧ s.line.receiver.idleCount < 12) ∧ 9 ≤ s.line.receiver.heldTicks := by
  rw [← lineHeldDue_iff]
  simp [mem_dueCommands]

theorem doorOpening_mem_dueCommands :
    .doorOpening ∈ dueCommands s ↔
      rawDoor s.permits = true ∧ s.permits.doorOpen = false ∧ 1 ≤ s.permits.doorCount := by
  simp [mem_dueCommands]

theorem doorClosing_mem_dueCommands :
    .doorClosing ∈ dueCommands s ↔
      rawDoor s.permits = false ∧ s.permits.doorOpen = true ∧ 1 ≤ s.permits.doorCount := by
  simp [mem_dueCommands]

/-! ## The statement -/

/-- Settles O2, branch by branch of what follows at once, and the tick block by block. -/
theorem emptyQueueIsTheTimebase : Obligations.EmptyQueueIsTheTimebase := by
  intro s hq
  rw [step_empty hq]
  refine ⟨fun hp => by rw [idle_unpowered hp], fun hp => by rw [idle_scanning hp],
    fun hp hw => by rw [idle_resetHeld_rest hp hw], fun f hp hw => by rw [idle_resetHeld_writing hp hw],
    fun r rest hp hs hr => by rw [idle_of_immediate hp (immediate_of_request hs hr)], ?_⟩
  intro hp hreq slot begins held settles charges raw
  have first := immediate_of_no_request hreq
  refine ⟨fun hslot => ?joinSlot, fun hslot hbegins => ?attempt, fun hslot hbegins hwrite => ?write,
    fun hslot hbegins hwrite => ?tick⟩
  case joinSlot =>
    rw [if_pos (slotReached_iff.mpr hslot)] at first
    rw [idle_of_immediate hp first]
  case attempt =>
    rw [if_neg (mt slotReached_iff.mp hslot), if_pos (attemptReady_iff.mpr hbegins)] at first
    rw [idle_of_immediate hp first]
  case write =>
    rw [if_neg (mt slotReached_iff.mp hslot), if_neg (mt attemptReady_iff.mp hbegins),
      if_pos (Option.isSome_iff_ne_none.mpr hwrite)] at first
    rw [idle_of_immediate hp first]
  case tick =>
    rw [if_neg (mt slotReached_iff.mp hslot), if_neg (mt attemptReady_iff.mp hbegins),
      if_neg (by simp [hwrite])] at first
    rw [idle_of_nothing_immediate hp first]
    refine ⟨?_, dropout_mem_dueCommands, returnConfirmation_mem_dueCommands, warmReturn_mem_dueCommands,
      fun _ => peerSilent_mem_dueCommands, fun _ => peerRemoved_mem_dueCommands, holdExpiry_mem_dueCommands,
      lineHeld_mem_dueCommands, doorOpening_mem_dueCommands, doorClosing_mem_dueCommands⟩
    rw [tick, tickSupply_eq, tickGauge_eq, tickLine_eq, tickPermits_eq]
    rfl

end Sys2Proof.Machine
end

section
/-! The rules that the statements on the cycle share: the roles of the exchange's buffers, what a record, a post
and a served request write, and which commands leave the cycle alone. -/

namespace Sys2Proof.Machine

/-! ## The roles of the exchange's buffers (R14 to R17) -/

/-- The numbers of buffers in each role that R14 allows. -/
structure Exchange.Roles (e : Exchange) : Prop where
  oneHostWrite : e.count Buffer.isHostWrite = 1
  oneNewest : e.count Buffer.isNewest ≤ 1
  oneJournalHeld : e.count Buffer.isJournalHeld ≤ 1

theorem ExchangeSound.roles {s : State} (h : ExchangeSound s) : s.exchange.Roles :=
  ⟨h.oneHostWrite, h.atMostOneNewest, h.atMostOneJournalHeld⟩

theorem Exchange.count_eq (test : Buffer → Bool) (e : Exchange) :
    e.count test = (test e.a).toNat + (test e.b).toNat + (test e.c).toNat := by
  unfold Exchange.count
  cases ha : test e.a <;> cases hb : test e.b <;> cases hc : test e.c <;> simp [ha, hb, hc]

/-- What a map of the buffers makes of a count, buffer by buffer. -/
theorem Exchange.count_mapBuffers {test before : Buffer → Bool} {f : Buffer → Buffer}
    (h : ∀ b, test (f b) = before b) (e : Exchange) : (e.mapBuffers f).count test = e.count before := by
  simp [Exchange.count_eq, Exchange.mapBuffers, h]

/-- A role that a map gives to no buffer. -/
theorem Exchange.count_mapBuffers_zero {test : Buffer → Bool} {f : Buffer → Buffer}
    (h : ∀ b, test (f b) = false) (e : Exchange) : (e.mapBuffers f).count test = 0 := by
  simp [Exchange.count_eq, Exchange.mapBuffers, h]

/-- Every buffer but a FREE one has exactly one of the other three roles. -/
theorem Buffer.one_role (b : Buffer) :
    b.isHostWrite.toNat + b.isNewest.toNat + b.isJournalHeld.toNat = 1 ∨ b = .free := by
  cases b <;> simp [Buffer.isHostWrite, Buffer.isNewest, Buffer.isJournalHeld]

theorem Exchange.newest?_eq_none_iff (e : Exchange) : e.newest? = none ↔ e.count Buffer.isNewest = 0 := by
  obtain ⟨a, b, c⟩ := e
  cases a <;> cases b <;> cases c <;> simp [Exchange.newest?, Exchange.count_eq, Buffer.isNewest]

theorem Exchange.newest?_mem {e : Exchange} {p : Progress} (h : e.newest? = some p) :
    e.a = .newest p ∨ e.b = .newest p ∨ e.c = .newest p := by
  unfold Exchange.newest? at h
  split at h <;> simp_all

theorem Exchange.Roles.of_no_newest {e : Exchange} (hw : e.count Buffer.isHostWrite = 1)
    (hn : e.newest? = none) (hj : e.count Buffer.isJournalHeld ≤ 1) : e.Roles :=
  ⟨hw, by rw [(e.newest?_eq_none_iff).mp hn]; omega, hj⟩

/-! ### The journal take (R17) and the entry into NO_CYCLE (R2) -/

theorem Buffer.taken_eq_handedOver : Buffer.taken = Buffer.handedOver := by
  funext b
  cases b <;> rfl

theorem Exchange.take_of_none {e : Exchange} (h : e.newest? = none) : e.take = e := by
  simp [Exchange.take, h]

theorem Exchange.take_of_some {e : Exchange} {p : Progress} (h : e.newest? = some p) :
    e.take = e.mapBuffers Buffer.handedOver := by
  simp [Exchange.take, h, Buffer.taken_eq_handedOver]

theorem Exchange.take_newest (e : Exchange) : e.take.newest? = none := by
  cases h : e.newest? with
  | none => rw [Exchange.take_of_none h, h]
  | some p =>
    rw [Exchange.take_of_some h, Exchange.newest?_eq_none_iff]
    exact Exchange.count_mapBuffers_zero (fun b => by cases b <;> rfl) e

theorem Exchange.Roles.take {e : Exchange} (h : e.Roles) : e.take.Roles := by
  cases hn : e.newest? with
  | none => rwa [Exchange.take_of_none hn]
  | some p =>
    have hw : e.take.count Buffer.isHostWrite = e.count Buffer.isHostWrite := by
      rw [Exchange.take_of_some hn]
      exact Exchange.count_mapBuffers (fun b => by cases b <;> rfl) e
    have hj : e.take.count Buffer.isJournalHeld = e.count Buffer.isNewest := by
      rw [Exchange.take_of_some hn]
      exact Exchange.count_mapBuffers (fun b => by cases b <;> rfl) e
    exact .of_no_newest (hw ▸ h.oneHostWrite) e.take_newest (hj ▸ h.oneNewest)

theorem Exchange.emptied_newest (e : Exchange) : (e.mapBuffers Buffer.emptied).newest? = none :=
  (Exchange.newest?_eq_none_iff _).mpr (Exchange.count_mapBuffers_zero (fun b => by cases b <;> rfl) e)

theorem Exchange.Roles.emptied {e : Exchange} (h : e.Roles) : (e.mapBuffers Buffer.emptied).Roles := by
  have hw : (e.mapBuffers Buffer.emptied).count Buffer.isHostWrite = e.count Buffer.isHostWrite :=
    Exchange.count_mapBuffers (fun b => by cases b <;> rfl) e
  have hj : (e.mapBuffers Buffer.emptied).count Buffer.isJournalHeld = 0 :=
    Exchange.count_mapBuffers_zero (fun b => by cases b <;> rfl) e
  exact .of_no_newest (hw ▸ h.oneHostWrite) e.emptied_newest (by omega)

/-- The journal take made first is not seen in what NO_CYCLE leaves. -/
theorem Exchange.emptied_take (e : Exchange) :
    e.take.mapBuffers Buffer.emptied = e.mapBuffers Buffer.emptied := by
  have same : ∀ b : Buffer, b.handedOver.emptied = b.emptied := fun b => by cases b <;> rfl
  cases h : e.newest? with
  | none => rw [Exchange.take_of_none h]
  | some p => rw [Exchange.take_of_some h]; simp [Exchange.mapBuffers, same]

/-! ### The commit (R15) -/

/-- A buffer of the exchange is FREE. -/
def Exchange.HasFree (e : Exchange) : Prop := e.a = .free ∨ e.b = .free ∨ e.c = .free

theorem Exchange.hasFree_of_counts {e : Exchange} (hw : e.count Buffer.isHostWrite = 0)
    (hn : e.count Buffer.isNewest ≤ 1) (hj : e.count Buffer.isJournalHeld ≤ 1) : e.HasFree := by
  rw [Exchange.count_eq] at hw hn hj
  obtain ha | ha := e.a.one_role
  · obtain hb | hb := e.b.one_role
    · obtain hc | hc := e.c.one_role
      · omega
      · exact .inr (.inr hc)
    · exact .inr (.inl hb)
  · exact .inl ha

/-- The choice of a HOST_WRITE buffer changes the first FREE one alone. -/
theorem Exchange.chooseHostWrite_cases {e : Exchange} (h : e.HasFree) :
    (e.a = .free ∧ e.chooseHostWrite = { e with a := .hostWrite })
    ∨ (e.b = .free ∧ e.chooseHostWrite = { e with b := .hostWrite })
    ∨ (e.c = .free ∧ e.chooseHostWrite = { e with c := .hostWrite }) := by
  unfold Exchange.chooseHostWrite
  by_cases ha : e.a = .free
  · simp [ha]
  · by_cases hb : e.b = .free
    · simp [ha, hb]
    · obtain h | h | h := h <;> simp_all

theorem Exchange.count_chooseHostWrite (test : Buffer → Bool) (ht : test .free = false) {e : Exchange}
    (h : e.HasFree) : e.chooseHostWrite.count test = e.count test + (test .hostWrite).toNat := by
  obtain ⟨hf, h⟩ | ⟨hf, h⟩ | ⟨hf, h⟩ := Exchange.chooseHostWrite_cases h
  all_goals
    rw [h]
    simp only [Exchange.count_eq, hf, ht, Bool.toNat_false]
    omega

theorem Exchange.Roles.committed_counts {e : Exchange} (h : e.Roles) (p : Progress) :
    (e.mapBuffers (Buffer.committed p)).count Buffer.isHostWrite = 0
    ∧ (e.mapBuffers (Buffer.committed p)).count Buffer.isNewest = 1
    ∧ (e.mapBuffers (Buffer.committed p)).count Buffer.isJournalHeld ≤ 1 := by
  have hn : (e.mapBuffers (Buffer.committed p)).count Buffer.isNewest = e.count Buffer.isHostWrite :=
    Exchange.count_mapBuffers (fun b => by cases b <;> rfl) e
  have hj : (e.mapBuffers (Buffer.committed p)).count Buffer.isJournalHeld = e.count Buffer.isJournalHeld :=
    Exchange.count_mapBuffers (fun b => by cases b <;> rfl) e
  exact ⟨Exchange.count_mapBuffers_zero (fun b => by cases b <;> rfl) e, hn.trans h.oneHostWrite,
    hj ▸ h.oneJournalHeld⟩

theorem Exchange.Roles.committed_hasFree {e : Exchange} (h : e.Roles) (p : Progress) :
    (e.mapBuffers (Buffer.committed p)).HasFree := by
  obtain ⟨hw, hn, hj⟩ := h.committed_counts p
  exact Exchange.hasFree_of_counts hw (by omega) hj

theorem Exchange.Roles.commit {e : Exchange} (h : e.Roles) (p : Progress) : (e.commit p).Roles := by
  obtain ⟨hw, hn, hj⟩ := h.committed_counts p
  have free := h.committed_hasFree p
  refine ⟨?_, ?_, ?_⟩ <;> rw [Exchange.commit, Exchange.count_chooseHostWrite _ rfl free]
  · rw [hw]; rfl
  · rw [hn]; exact Nat.le_refl 1
  · exact hj

/-- A buffer that stood JOURNAL_HELD stays so over a commit. -/
theorem Exchange.commit_journalHeld {e : Exchange} (h : e.Roles) (p r : Progress) :
    (e.a = .journalHeld r → (e.commit p).a = .journalHeld r)
    ∧ (e.b = .journalHeld r → (e.commit p).b = .journalHeld r)
    ∧ (e.c = .journalHeld r → (e.commit p).c = .journalHeld r) := by
  obtain ⟨hf, he⟩ | ⟨hf, he⟩ | ⟨hf, he⟩ := Exchange.chooseHostWrite_cases (h.committed_hasFree p)
  all_goals
    rw [Exchange.commit, he]
    refine ⟨fun hr => ?_, fun hr => ?_, fun hr => ?_⟩ <;> simp_all [Exchange.mapBuffers, Buffer.committed]

/-- A commit leaves its record as the NEWEST. -/
theorem Exchange.Roles.commit_newest {e : Exchange} (h : e.Roles) (p : Progress) :
    (e.commit p).newest? = some p := by
  have only : ∀ b q, Buffer.committed p b = .newest q → q = p := by
    intro b q hb
    cases b <;> simp_all [Buffer.committed]
  cases hq : (e.commit p).newest? with
  | none =>
    have counted := Exchange.count_chooseHostWrite Buffer.isNewest rfl (h.committed_hasFree p)
    rw [Exchange.newest?_eq_none_iff, Exchange.commit, counted, (h.committed_counts p).2.1] at hq
    simp at hq
  | some q =>
    have place := Exchange.newest?_mem hq
    obtain ⟨-, he⟩ | ⟨-, he⟩ | ⟨-, he⟩ := Exchange.chooseHostWrite_cases (h.committed_hasFree p)
    all_goals
      rw [Exchange.commit, he] at place
      simp only [Exchange.mapBuffers, reduceCtorEq, false_or, or_false] at place
      obtain hb | hb := place <;> rw [only _ q hb]

end Sys2Proof.Machine
end

section
namespace Sys2Proof.Machine

/-! ## Posts, records and served requests -/

theorem post_eq (e : Event) (s : State) : post e s = { s with port := postedPort e s } := by
  have room : hasRoom s = true ↔ outstanding s + eventsWaiting s < 16 := hasRoom_iff s
  unfold post postedPort
  split <;> simp_all [addEvent]

theorem queueRecord_eq (b : Snapshot) (s : State) :
    queueRecord b s = { s with journal := queuedJournal b s } := by
  unfold queueRecord queuedJournal
  split <;> rfl

/-- R17: a record's snapshot, with the figures of the buffer taken where one was, and the context's otherwise. -/
theorem snapshot_eq {s : State} {p : Progress} (k : RecordKind) (why : Reason) (taken : Option Progress)
    (h : taken.or s.context.progress = some p) :
    snapshot k why taken s = recordOf k why s.context p s.gauge := by
  simp [snapshot, recordOf, h]

/-- A record written where a NEWEST buffer can only hold the context's own progress. -/
theorem writeRecord_of_progress {s : State} {p : Progress} (k : RecordKind) (why : Reason)
    (hn : ∀ q, s.exchange.newest? = some q → s.context.progress = some q) (hp : s.context.progress = some p) :
    writeRecord k why s = { s with
      exchange := s.exchange.take
      journal := queuedJournal (recordOf k why s.context p s.gauge) s } := by
  have figures : s.exchange.newest?.or s.context.progress = some p := by
    cases h : s.exchange.newest? with
    | none => exact hp
    | some q => exact (hn q h).symm.trans hp
  rw [writeRecord_eq, queueRecord_eq, snapshot_eq k why _ (by exact figures)]
  rfl

theorem ExchangeSound.newest_progress {s : State} (h : ExchangeSound s) (q : Progress)
    (hq : s.exchange.newest? = some q) : s.context.progress = some q :=
  (h.newestIsContext q hq).2.2

theorem ExchangeSound.no_newest {s : State} (h : ExchangeSound s) (hc : s.context.cycleState ≠ .running) :
    s.exchange.newest? = none := by
  cases hn : s.exchange.newest? with
  | none => rfl
  | some p => exact absurd (h.newestIsContext p hn).2.1 hc

/-- The rule that owns a kind of request. -/
def RequestKind.owner : RequestKind → Request → State → State
  | .configure => configureOwner | .openCycle => openCycleOwner | .requestStep => requestStepOwner
  | .dropStep => dropStepOwner | .hostStop => hostStopOwner | .continueCycle => continueCycleOwner
  | .closeCycle => closeCycleOwner | .resumeAnswer => resumeAnswerOwner

theorem exec_command (k : RequestKind) (s : State) :
    exec k.command s = whenRunning (serveKind k k.owner) s := by
  cases k <;> rfl

theorem requestKindOf_code (k : RequestKind) : requestKindOf k.code = some k := by
  cases k <;> rfl

/-- The state with the head request taken into service. -/
def State.serving (r : Request) (rest : List Request) (s : State) : State :=
  { s with port := { s.port with requests := rest, inService := some r } }

theorem Served.commonRefusal {k : RequestKind} {s : State} {r : Request} {rest : List Request}
    (h : Served k s r rest) : commonRefusal (s.serving r rest) r = none := by
  have configured : ¬ (r.kind ≠ RequestKind.configure.code ∧ s.settings = none) := fun ⟨hk, hs⟩ =>
    h.configured (fun e => hk (by rw [h.kind, e])) hs
  have present : requestKindOf r.kind ≠ none := by simp [h.kind, requestKindOf_code]
  obtain hm | hm := h.mains <;> simp [Machine.commonRefusal, State.serving, hm, present, configured]

/-- A request that passes the common tests is handed to the rule of its kind. -/
theorem exec_served {k : RequestKind} {s : State} {r : Request} {rest : List Request}
    (h : Served k s r rest) : exec k.command s = .next (k.owner r (s.serving r rest)) := by
  have common := h.commonRefusal
  rw [exec_command, whenRunning_running _ h.running]
  simp only [State.serving] at common ⊢
  simp [serveKind, takeIntoService, h.free, h.head, h.kind, common]

/-- The completion of the request taken from `s`, when nothing else has been posted since. -/
theorem completeService_served {s t : State} {r : Request} {rest : List Request} (result : Result)
    (m : BitVec 24) (hf : s.port.inService = none) (port : t.port = (s.serving r rest).port) :
    completeService result m t = { t with port := answered r rest result m s.port } := by
  rw [completeService_some result m (by rw [port]; rfl), port]
  simp [State.serving, answered, hf]

/-- A request that its rule refuses changes nothing but the port. -/
theorem completeService_serving {s : State} {r : Request} {rest : List Request} (result : Result)
    (hf : s.port.inService = none) :
    completeService result 0 (s.serving r rest) = { s with port := answered r rest result 0 s.port } := by
  rw [completeService_served result 0 hf rfl]
  rfl

end Sys2Proof.Machine
end

section
namespace Sys2Proof.Machine

/-! ## The commands that leave the cycle alone -/

/-- The power, the exchange, the context but for its two timers, and the Assessor's answer and mark stand as they
stood. -/
def SameCycle (s t : State) : Prop :=
  t.power = s.power ∧ t.exchange = s.exchange
  ∧ t.context = { s.context with
      stillStarted := t.context.stillStarted, stillTicks := t.context.stillTicks,
      freshRunning := t.context.freshRunning, freshTicks := t.context.freshTicks }
  ∧ t.assessor.awaiting = s.assessor.awaiting ∧ t.assessor.estimateMark = s.assessor.estimateMark

theorem SameCycle.refl (s : State) : SameCycle s s := ⟨rfl, rfl, rfl, rfl, rfl⟩

theorem SameCycle.trans {s t u : State} (h : SameCycle s t) (h' : SameCycle t u) : SameCycle s u := by
  obtain ⟨hp, he, hc, ha, hm⟩ := h
  obtain ⟨hp', he', hc', ha', hm'⟩ := h'
  exact ⟨hp'.trans hp, he'.trans he, hc'.trans (by rw [hc]), ha'.trans ha, hm'.trans hm⟩

/-- The commands that can move the cycle: commits, the requests that own it, its timers, the starts and ends
of operation, the loss and the return of mains, the start-up reading, a grant and the door's opening. -/
def movesCycle : Instr → Bool
  | .writeProgress _ | .configure | .openCycle | .hostStop | .continueCycle | .closeCycle | .resumeAnswer
  | .journalInterval | .freshnessExpiry | .stillTimerSecond | .coldStart | .coreSupplyFail | .resetN _
  | .pinStart | .recoveryScan | .dropout | .warmReturn | .startupReadingEnd _ | .holdExpiry
  | .doorOpening => true
  | _ => false

theorem whenRunning_keeps {P : State → Prop} {f : State → State} {s t : State} (hs : P s)
    (hf : s.power = .running → P (f s)) (h : whenRunning f s = .next t) : P t := by
  by_cases hp : s.power = .running
  · rw [whenRunning_running f hp, Host.Outcome.next.injEq] at h
    exact h ▸ hf hp
  · rw [whenRunning_other f hp, Host.Outcome.next.injEq] at h
    exact h ▸ hs

theorem whenRunning_sameCycle {f : State → State} {s t : State} (hf : SameCycle s (f s))
    (h : whenRunning f s = .next t) : SameCycle s t :=
  whenRunning_keeps (SameCycle.refl s) (fun _ => hf) h

theorem transaction_sameCycle {k : TransactionKind} {mosi : List Byte} {s t : State}
    {body : List Byte → State → State × List Byte} (hb : ∀ m, SameCycle s (body m s).1)
    (h : (.next (transaction k mosi body s) : Host.Outcome State Fault Refusal) = .next t) :
    SameCycle s t := by
  obtain rfl : transaction k mosi body s = t := by simpa using h
  unfold transaction
  split
  · split
    · exact (hb mosi.tail).trans (by simp [SameCycle])
    · simp [SameCycle]
  all_goals simp [SameCycle]

/-- What a request taken into service does to a property of states that does not look at the port. -/
theorem takeIntoService_keeps {P : State → Prop} (isKind : Byte → Bool) {owner : Request → State → State}
    {s : State} (hs : P s) (port : ∀ u p, P u → P { u with port := p }) (own : ∀ r u, P u → u.power = s.power → P (owner r u)) :
    P (takeIntoService isKind owner s) := by
  obtain h | ⟨r, rest, s1, -, -, -, rfl, ⟨x, -, h⟩ | ⟨-, h⟩⟩ := takeIntoService_cases s isKind owner
  · rwa [h]
  · rw [h, completeService_some (r := r) x 0 rfl]
    exact port s _ hs
  · rw [h]
    exact own r _ (port s _ hs) rfl

theorem takeIntoService_sameCycle (isKind : Byte → Bool) {owner : Request → State → State} (s : State)
    (own : ∀ r u, SameCycle u (owner r u)) : SameCycle s (takeIntoService isKind owner s) := by
  exact takeIntoService_keeps (P := SameCycle s) isKind (SameCycle.refl s) (fun u p hu => hu)
    (fun r u hu _ => hu.trans (own r u))

theorem exec_sameCycle {c : Instr} {s t : State} (hq : movesCycle c = false) (h : exec c s = .next t) :
    SameCycle s t := by
  cases c
  case sendRequest mosi =>
    refine transaction_sameCycle (fun m => ?_) h
    unfold sendRequestBody
    (repeat' split) <;> simp [SameCycle]
  case takeEvent mosi =>
    refine transaction_sameCycle (fun m => ?_) h
    unfold takeEventBody
    (repeat' split) <;> simp [SameCycle]
  case readStatus mosi =>
    refine transaction_sameCycle (fun m => ?_) h
    unfold readStatusBody
    (repeat' split) <;> simp [SameCycle]
  case writeComplete =>
    simp only [exec, execWriteComplete, Host.Outcome.next.injEq] at h
    subst h
    (repeat' split) <;> simp [SameCycle]
  case mainsZcPulse =>
    simp only [exec, execMainsZcPulse, Host.Outcome.next.injEq] at h
    subst h
    split <;> simp [SameCycle]
  case vholdReading x =>
    simp only [exec, execVholdReading, Host.Outcome.next.injEq] at h
    subst h
    simp [SameCycle]
  case writeProgress | configure | openCycle | hostStop | continueCycle | closeCycle | resumeAnswer
    | journalInterval | freshnessExpiry | stillTimerSecond | coldStart | coreSupplyFail | resetN
    | pinStart | recoveryScan | dropout | warmReturn | startupReadingEnd | holdExpiry | doorOpening =>
    exact absurd hq nofun
  case requestStep | dropStep | unknownKindServed =>
    exact whenRunning_sameCycle (takeIntoService_sameCycle _ s fun r u => by simp [SameCycle]) h
  all_goals
    simp only [exec, execLossTimerSecond, execReturnConfirmation, execChargingConversionStart,
      execChargingConversionEnd, execRefreshStart, execRefreshEnd, execAttemptStart, execArbitrationLost,
      execBitError, execLineHeld, execFrameSent, execFrameReceived, execPresenceDue, execJoinSlot,
      execJoinWindowEnd, execPeerSilent, execPeerRemoved, execAdmissionTest, execSpacingElapsed,
      execRampElapsed, execShedSettleExpiry, execWaitingAgeSecond, execHeatPeriodStart, execOnTimeEnd,
      execDoorClosing] at h
    refine whenRunning_sameCycle ?_ h
  all_goals (repeat' split) <;> simp [SameCycle]

/-- The part's own time moves the two timers of the context and nothing else of the cycle. -/
theorem idle_sameCycle (s : State) : SameCycle s (idle s) := by
  obtain h | ⟨c, h⟩ | ⟨-, -, h⟩ := idle_cases s
  · rw [h]
    exact SameCycle.refl s
  · rw [h]
    exact ⟨rfl, rfl, rfl, rfl, rfl⟩
  · rw [h]
    simp [SameCycle, tick, tickContext]

/-! ## The operations that lead to an assessment -/

/-- The part configured, before the assessment of the gauge's off-time (R158). -/
def State.configured (raw : Settings) (s : State) : State :=
  completeService (if clampedMap raw = 0 then .done else .clamped) (clampedMap raw) { s with
    settings := some raw.clamped
    assessor := { s.assessor with gaugeOff := some (gaugeOffTime s.gauge.logRatio raw.clamped.halfLife) }
    journal := { s.journal with intervalRunning := true, intervalTicks := 0 } }

theorem acceptConfigure_eq (raw : Settings) (s : State) :
    acceptConfigure raw s =
      let a := assess .gauge (gaugeOffTime s.gauge.logRatio raw.clamped.halfLife) s.supply.carried
        (s.configured raw)
      let b := { a with supply := { a.supply with carried := 0 } }
      if b.supply.supplyState = .onMains then beginJoin b else b := rfl

/-- CONFIGURE taken leaves the cycle to the assessment (R158). -/
theorem acceptConfigure_assesses (raw : Settings) (s : State) :
    ∃ off carried u, SameCycle s u ∧ SameCycle (assess .gauge off carried u) (acceptConfigure raw s) := by
  refine ⟨gaugeOffTime s.gauge.logRatio raw.clamped.halfLife, s.supply.carried, s.configured raw,
    by simp [SameCycle, State.configured], ?_⟩
  rw [acceptConfigure_eq]
  dsimp only
  split <;> exact ⟨rfl, rfl, rfl, rfl, rfl⟩

theorem decideConfigure_cases (r : Request) (s : State) :
    SameCycle s (decideConfigure r s) ∨ decideConfigure r s = acceptConfigure r.settings s := by
  unfold decideConfigure
  dsimp only
  split
  · exact .inl (by simp [SameCycle])
  split
  · exact .inl (by simp [SameCycle])
  split
  · exact .inl (by simp [SameCycle])
  · exact .inr rfl

/-- The part back on mains, before the assessment of the loss timer's off-time (R47). -/
def State.backOnMains (s : State) : State :=
  let s1 := post (.mainsBack s.supply.lossReading)
    (enterOnMains { s with supply := { s.supply with lossRunning := false } })
  let s2 := { s1 with context := { s1.context with stillStarted := true } }
  let s3 := if s2.settings ≠ none then beginJoin s2 else emptyLine s2
  { s3 with gauge := s3.gauge.warmReturn }

theorem confirmReturn_eq (s : State) :
    confirmReturn s =
      if s.supply.supplyState = .returning ∧ Config.settleLimit ≤ s.supply.settle then
        let b := s.backOnMains
        if b.settings ≠ none then assess .timer (.seconds s.supply.lossReading) 0 b
        else { b with supply := { b.supply with carried := satAdd b.supply.carried s.supply.lossReading } }
      else s := rfl

/-- A warm return leaves the cycle to the assessment of the loss timer's off-time, or alone (R47, R48). -/
theorem confirmReturn_cases (s : State) :
    SameCycle s (confirmReturn s) ∨
    ∃ off u, SameCycle s u ∧ confirmReturn s = assess .timer off 0 u := by
  have back : SameCycle s s.backOnMains := by
    unfold State.backOnMains
    dsimp only
    split <;> simp [SameCycle]
  rw [confirmReturn_eq]
  dsimp only
  split
  · split
    · exact .inr ⟨_, _, back, rfl⟩
    · exact .inl back
  · exact .inl (SameCycle.refl s)

/-- The end of the start-up reading starts the still timer, and a CONFIGURE held in service goes on (R58, R69). -/
theorem resumeConfigure_endReading_cases (counter : BitVec 16) (s : State) :
    SameCycle s (resumeConfigure (endReading counter s)) ∨
    ∃ r u, SameCycle s u ∧ resumeConfigure (endReading counter s) = decideConfigure r u := by
  have read : SameCycle s (endReading counter s) := by
    unfold endReading
    dsimp only
    split <;> simp [SameCycle]
  unfold resumeConfigure
  split
  · exact .inr ⟨_, _, read, rfl⟩
  · exact .inl read

/-! ## Invariants of the cycle -/

/-- A property of the cycle that each operation that can move the cycle keeps where it is made. -/
structure CycleInvariant (P : State → Prop) : Prop where
  same : ∀ {s t}, P s → SameCycle s t → P t
  started : ∀ cause slots s, P (startPart cause slots s)
  failed : ∀ s, P (failSupply s)
  resetHeld : ∀ {s}, P s → P (holdReset s)
  scanned : ∀ {s}, P s → s.power = .scanning → P (endScan s)
  commit : ∀ {s} mosi, P s → s.power = .running → P (commitProgress mosi s)
  openCycle : ∀ {s} r, P s → P (openCycleOwner r s)
  hostStop : ∀ {s} r, P s → P (hostStopOwner r s)
  continueCycle : ∀ {s} r, P s → P (continueCycleOwner r s)
  closeCycle : ∀ {s} r, P s → P (closeCycleOwner r s)
  resumeAnswer : ∀ {s} r, P s → P (resumeAnswerOwner r s)
  assess : ∀ {s} source off carried, P s → s.power = .running → P (Machine.assess source off carried s)
  interval : ∀ {s}, P s → P (intervalExpiry s)
  fresh : ∀ {s}, P s → P (freshnessLimit s)
  still : ∀ {s}, P s → P (stillSecond s)
  grant : ∀ {s} p, P s → P (Machine.grant p s)
  loss : ∀ {s}, P s → P (declareLoss s)
  door : ∀ {s}, P s → P (seeDoor s)

namespace CycleInvariant

variable {P : State → Prop} {s t : State}

theorem decideConfigure (inv : CycleInvariant P) (r : Request) (h : P s) (hp : s.power = .running) :
    P (decideConfigure r s) := by
  obtain same | he := decideConfigure_cases r s
  · exact inv.same h same
  · obtain ⟨off, carried, u, hu, ha⟩ := acceptConfigure_assesses r.settings s
    exact he ▸ inv.same (inv.assess .gauge off carried (inv.same h hu) (hu.1.trans hp)) ha

theorem configureOwner (inv : CycleInvariant P) (r : Request) (h : P s) (hp : s.power = .running) :
    P (configureOwner r s) := by
  unfold Machine.configureOwner
  split
  · exact h
  · exact inv.decideConfigure r h hp

theorem endReading (inv : CycleInvariant P) (counter : BitVec 16) (h : P s) (hp : s.power = .running) :
    P (resumeConfigure (endReading counter s)) := by
  obtain same | ⟨r, u, hu, he⟩ := resumeConfigure_endReading_cases counter s
  · exact inv.same h same
  · exact he ▸ inv.decideConfigure r (inv.same h hu) (hu.1.trans hp)

theorem confirmReturn (inv : CycleInvariant P) (h : P s) (hp : s.power = .running) : P (confirmReturn s) := by
  obtain same | ⟨off, u, hu, he⟩ := confirmReturn_cases s
  · exact inv.same h same
  · exact he ▸ inv.assess .timer off 0 (inv.same h hu) (hu.1.trans hp)

theorem dropout (inv : CycleInvariant P) (h : P s) : P (dropout s) := by
  unfold Machine.dropout
  (repeat' split)
  case h_1 | h_2 => exact inv.loss h
  all_goals exact inv.same h (by simp [SameCycle])

theorem holdEnd (inv : CycleInvariant P) (h : P s) : P (holdEnd s) := by
  have withdrawn : P (withdrawClaim s) := inv.same h (by simp [SameCycle])
  unfold Machine.holdEnd
  split
  · split
    · exact h
    · split
      · split
        · exact inv.grant _ h
        · exact withdrawn
      · exact withdrawn
  all_goals exact h

theorem openDoor (inv : CycleInvariant P) (h : P s) : P (openDoor s) := by
  unfold Machine.openDoor
  dsimp only
  split <;> exact inv.door (inv.same h (by simp [SameCycle]))

/-- A request of one of the kinds that own the cycle, taken into service. -/
theorem served (inv : CycleInvariant P) {k : RequestKind} {owner : Request → State → State} (hs : P s)
    (own : ∀ r u, P u → u.power = .running → P (owner r u)) (h : whenRunning (serveKind k owner) s = .next t) :
    P t := by
  exact whenRunning_keeps hs (fun hp => takeIntoService_keeps _ hs
    (fun u p hu => inv.same hu ⟨rfl, rfl, rfl, rfl, rfl⟩) (fun r u hu hu' => own r u hu (hu'.trans hp))) h

theorem writeProgress (inv : CycleInvariant P) (mosi : List Byte) (h : P s) :
    P (transaction .writeProgress mosi writeProgressBody s) := by
  unfold transaction
  split
  · split
    · rename_i hp _
      refine inv.same (s := (writeProgressBody mosi.tail s).1) ?_ (by simp [SameCycle])
      unfold writeProgressBody
      split
      · exact h
      · exact inv.commit _ h hp
    · exact inv.same h (by simp [SameCycle])
  all_goals exact inv.same h (by simp [SameCycle])

theorem exec_keeps (inv : CycleInvariant P) {c : Instr} (hm : movesCycle c = true) (hs : P s)
    (h : exec c s = .next t) : P t := by
  cases c
  case writeProgress mosi => exact Host.Outcome.next.inj h ▸ inv.writeProgress mosi hs
  case configure => exact inv.served hs (fun r _ => inv.configureOwner r) h
  case openCycle => exact inv.served hs (fun r _ hu _ => inv.openCycle r hu) h
  case hostStop => exact inv.served hs (fun r _ hu _ => inv.hostStop r hu) h
  case continueCycle => exact inv.served hs (fun r _ hu _ => inv.continueCycle r hu) h
  case closeCycle => exact inv.served hs (fun r _ hu _ => inv.closeCycle r hu) h
  case resumeAnswer => exact inv.served hs (fun r _ hu _ => inv.resumeAnswer r hu) h
  case journalInterval => exact whenRunning_keeps hs (fun _ => inv.interval hs) h
  case freshnessExpiry => exact whenRunning_keeps hs (fun _ => inv.fresh hs) h
  case stillTimerSecond => exact whenRunning_keeps hs (fun _ => inv.still hs) h
  case dropout => exact whenRunning_keeps hs (fun _ => inv.dropout hs) h
  case warmReturn => exact whenRunning_keeps hs (fun hp => inv.confirmReturn hs hp) h
  case holdExpiry => exact whenRunning_keeps hs (fun _ => inv.holdEnd hs) h
  case startupReadingEnd counter =>
    simp only [exec, execStartupReadingEnd] at h
    refine whenRunning_keeps hs (fun hp => ?_) h
    split
    · exact inv.endReading counter hs hp
    · exact hs
  case doorOpening =>
    simp only [exec, execDoorOpening] at h
    refine whenRunning_keeps hs (fun _ => ?_) h
    split
    · exact inv.openDoor hs
    · exact hs
  case coldStart => exact Host.Outcome.next.inj h ▸ inv.started _ _ s
  case coreSupplyFail =>
    refine Host.Outcome.next.inj h ▸ ?_
    split
    · exact hs
    · exact inv.failed s
  case resetN n =>
    refine Host.Outcome.next.inj h ▸ ?_
    split
    · exact inv.resetHeld hs
    · exact hs
  case pinStart =>
    refine Host.Outcome.next.inj h ▸ ?_
    split
    · exact inv.started _ _ s
    · exact hs
  case recoveryScan =>
    refine Host.Outcome.next.inj h ▸ ?_
    split
    · exact inv.scanned hs ‹_›
    · exact hs
  all_goals cases hm

/-- Such a property is kept by every step. -/
theorem kept (inv : CycleInvariant P) (hs : P s) (h : step s = .next t) : P t := by
  unfold step at h
  split at h
  · rename_i c rest hq
    have front : P { s with pending := rest } := inv.same hs ⟨rfl, rfl, rfl, rfl, rfl⟩
    cases hc : movesCycle c with
    | true => exact inv.exec_keeps hc front h
    | false => exact inv.same front (exec_sameCycle hc h)
  · exact Host.Outcome.next.inj h ▸ inv.same hs (idle_sameCycle s)

end CycleInvariant

end Sys2Proof.Machine
end

section
/-! The exchange over every step (R14, R17, R23): a record's take and the entry into NO_CYCLE leave no NEWEST
buffer, and outside RUNNING there is none. -/

namespace Sys2Proof.Machine

/-- The roles and the claim on a NEWEST buffer look at the exchange, the scan, the cycle state and the figures. -/
theorem ExchangeSound.of_figures {s t : State} (h : ExchangeSound s) (he : t.exchange = s.exchange)
    (hp : t.power = .scanning → s.power = .scanning) (hc : t.context.cycleState = s.context.cycleState)
    (hg : t.context.progress = s.context.progress) : ExchangeSound t := by
  refine ⟨he ▸ h.oneHostWrite, he ▸ h.atMostOneNewest, he ▸ h.atMostOneJournalHeld, fun p hn => ?_⟩
  obtain ⟨power, state, figures⟩ := h.newestIsContext p (he ▸ hn)
  exact ⟨mt hp power, hc.trans state, hg.trans figures⟩

theorem ExchangeSound.congr {s t : State} (h : ExchangeSound s) (same : SameCycle s t) : ExchangeSound t := by
  obtain ⟨hp, he, hc, -, -⟩ := same
  exact h.of_figures he (fun ht => hp ▸ ht) (by rw [hc]) (by rw [hc])

theorem ExchangeSound.of_no_newest {s : State} (roles : s.exchange.Roles) (hn : s.exchange.newest? = none) :
    ExchangeSound s :=
  ⟨roles.oneHostWrite, roles.oneNewest, roles.oneJournalHeld, fun p hp => by rw [hn] at hp; cases hp⟩

theorem ExchangeSound.of_take {s t : State} (h : ExchangeSound s) (he : t.exchange = s.exchange.take) :
    ExchangeSound t :=
  .of_no_newest (he ▸ h.roles.take) (by rw [he]; exact s.exchange.take_newest)

theorem ExchangeSound.of_emptied {s t : State} (h : ExchangeSound s)
    (he : t.exchange = s.exchange.mapBuffers Buffer.emptied) : ExchangeSound t :=
  .of_no_newest (he ▸ h.roles.emptied) (by rw [he]; exact s.exchange.emptied_newest)

/-- Outside RUNNING the exchange does not look at the context. -/
theorem ExchangeSound.of_not_running {s t : State} (h : ExchangeSound s)
    (hc : s.context.cycleState ≠ .running) (he : t.exchange = s.exchange) : ExchangeSound t :=
  .of_no_newest (he ▸ h.roles) (by rw [he]; exact h.no_newest hc)

/-! ## What the operations leave of the exchange -/

@[simp] theorem writeRecord_exchange (k : RecordKind) (why : Reason) (s : State) :
    (writeRecord k why s).exchange = s.exchange.take := by
  simp [writeRecord]

theorem guardExpiry_exchange (s : State) :
    (guardExpiry s).exchange = s.exchange.mapBuffers Buffer.emptied := by
  simp [guardExpiry, Exchange.emptied_take]

theorem finalise_exchange (s : State) :
    (finalise s).exchange = s.exchange ∨ (finalise s).exchange = s.exchange.take := by
  unfold finalise
  split <;> simp

theorem declareLoss_exchange (s : State) : (declareLoss s).exchange = s.exchange.take := by
  simp only [declareLoss, refuseHeld, lossRecord]
  split <;> simp

theorem actOnPlan_exchange (p : Plan) (s : State) :
    (actOnPlan p s).exchange = s.exchange ∨
    (actOnPlan p s).exchange = s.exchange.mapBuffers Buffer.emptied := by
  unfold actOnPlan
  dsimp only
  split <;> simp [Exchange.emptied_take]

/-! ## The operations that move the cycle -/

theorem assess_exchangeSound {s : State} (source : OffSource) (off : OffTime) (carried : Nat)
    (h : ExchangeSound s) : ExchangeSound (assess source off carried s) := by
  have acted : ∀ (u : State) p, s.context.cycleState ≠ .running → u.exchange = s.exchange →
      ExchangeSound (actOnPlan p u) := by
    intro u p hc hu
    obtain he | he := actOnPlan_exchange p u
    · exact h.of_not_running hc (he.trans hu)
    · exact h.of_emptied (hu ▸ he)
  unfold assess
  dsimp only
  split
  case h_1 => exact h.congr (by simp [SameCycle])
  case h_4 | h_5 => exact h
  all_goals
    rename_i hc
    split
    · exact acted _ _ (by simp [hc]) rfl
    · exact h.of_not_running (by simp [hc]) rfl

theorem acceptCommit_exchangeSound {s : State} (p : Progress) (h : ExchangeSound s)
    (hp : s.power ≠ .scanning) (hc : s.context.cycleState = .running) : ExchangeSound (acceptCommit p s) := by
  have roles := h.roles.commit p
  unfold acceptCommit
  dsimp only
  split
  · exact .of_no_newest (by simpa using roles.take) (by simpa using (s.exchange.commit p).take_newest)
  · refine ⟨roles.oneHostWrite, roles.oneNewest, roles.oneJournalHeld, fun q hq => ⟨hp, hc, ?_⟩⟩
    exact (h.roles.commit_newest p).symm.trans hq

theorem commitProgress_exchangeSound {s : State} (mosi : List Byte) (h : ExchangeSound s)
    (hp : s.power ≠ .scanning) : ExchangeSound (commitProgress mosi s) := by
  have rejected : ExchangeSound { s with port := { s.port with progressRejected := true } } :=
    h.congr ⟨rfl, rfl, rfl, rfl, rfl⟩
  unfold commitProgress
  split
  · split
    · rename_i accepted
      have hc : s.context.cycleState = .running := by simp_all [commitAccepted]
      exact acceptCommit_exchangeSound _ h hp hc
    · exact rejected
  · exact rejected

theorem guardTest_exchangeSound {s : State} (h : ExchangeSound s) : ExchangeSound (guardTest s) := by
  obtain ⟨-, he⟩ | ⟨-, he⟩ := guardTest_cases s
  · rwa [he]
  · rw [he]
    exact h.of_emptied (guardExpiry_exchange s)

theorem grant_exchangeSound {s : State} (p : StepRequest) (h : ExchangeSound s) : ExchangeSound (grant p s) := by
  have granted : ExchangeSound (grantStep p s) := h.congr (by simp [SameCycle])
  unfold grant
  dsimp only
  split
  · rename_i hr
    obtain he | he := finalise_exchange (grantStep p s)
    · exact granted.of_not_running (by simp [hr.1]) he
    · exact granted.of_take he
  · exact granted

/-! ## The requests that own the cycle -/

theorem openCycleOwner_exchangeSound {s : State} (r : Request) (h : ExchangeSound s) :
    ExchangeSound (openCycleOwner r s) := by
  unfold openCycleOwner
  dsimp only
  (repeat' split)
  case h_2.isFalse => exact h.of_take (by simp)
  all_goals exact h.congr (by simp [SameCycle])

theorem hostStopOwner_exchangeSound {s : State} (r : Request) (h : ExchangeSound s) :
    ExchangeSound (hostStopOwner r s) := by
  unfold hostStopOwner
  split
  · exact h.of_take (by simp)
  · exact h.congr (by simp [SameCycle])

theorem continueCycleOwner_exchangeSound {s : State} (r : Request) (h : ExchangeSound s) :
    ExchangeSound (continueCycleOwner r s) := by
  unfold continueCycleOwner
  split
  · exact h.of_take (by simp)
  · exact h.congr (by simp [SameCycle])

theorem closeCycleOwner_exchangeSound {s : State} (r : Request) (h : ExchangeSound s) :
    ExchangeSound (closeCycleOwner r s) := by
  unfold closeCycleOwner
  split
  case h_4 | h_5 => exact h.congr (by simp [SameCycle])
  all_goals exact h.of_emptied (by simp [Exchange.emptied_take])

theorem awaitedPlan_some {s : State} {plan : Plan} (h : awaitedPlan s = some plan) :
    s.context.cycleState = .interrupted ∧ s.assessor.awaiting = true ∧ s.context.plan = some plan := by
  unfold awaitedPlan at h
  split at h
  · rename_i hc
    exact ⟨hc.1, hc.2, h⟩
  · cases h

theorem acceptPlan_exchangeSound {s : State} (plan : Plan) (h : ExchangeSound s)
    (hc : s.context.cycleState = .interrupted) : ExchangeSound (acceptPlan plan s) :=
  guardTest_exchangeSound (h.of_not_running (by simp [hc]) (by simp))

theorem declinePlan_exchangeSound {s : State} (h : ExchangeSound s) : ExchangeSound (declinePlan s) :=
  h.of_emptied (by simp [declinePlan, Exchange.emptied_take])

theorem resumeAnswerOwner_exchangeSound {s : State} (r : Request) (h : ExchangeSound s) :
    ExchangeSound (resumeAnswerOwner r s) := by
  have refused : ∀ x, ExchangeSound (completeService x 0 s) := fun x => h.congr (by simp [SameCycle])
  unfold resumeAnswerOwner
  split
  · split
    · exact refused _
    · rename_i plan hplan
      split
      · exact refused _
      · exact acceptPlan_exchangeSound plan h (awaitedPlan_some hplan).1
  · split
    · split
      · exact refused _
      · exact declinePlan_exchangeSound h
    · exact refused _

/-! ## The statement -/

theorem started_exchangeSound {s : State} (h : s.exchange = Exchange.initial) : ExchangeSound s :=
  .of_no_newest (h ▸ ⟨by decide, by decide, by decide⟩) (by rw [h]; rfl)

theorem endScan_exchangeSound {s : State} (h : ExchangeSound s) (hp : s.power = .scanning) :
    ExchangeSound (endScan s) := by
  refine .of_no_newest (by simpa using h.roles) ?_
  cases hn : (endScan s).exchange.newest? with
  | none => rfl
  | some p => exact absurd hp (h.newestIsContext p (by simpa using hn)).1

theorem intervalExpiry_exchangeSound {s : State} (h : ExchangeSound s) : ExchangeSound (intervalExpiry s) := by
  unfold intervalExpiry
  dsimp only
  (repeat' split)
  · exact h.of_take (by simp)
  · exact h.congr ⟨rfl, rfl, rfl, rfl, rfl⟩
  · exact h

theorem stillSecond_exchangeSound {s : State} (h : ExchangeSound s) : ExchangeSound (stillSecond s) := by
  unfold stillSecond
  split
  · exact guardTest_exchangeSound ⟨h.1, h.2, h.3, h.4⟩
  · exact h

theorem freshnessLimit_exchangeSound {s : State} (h : ExchangeSound s) : ExchangeSound (freshnessLimit s) :=
  h.of_figures (by simp) (by simp) (by simp) (by simp)

theorem seeDoor_exchangeSound {s : State} (h : ExchangeSound s) : ExchangeSound (seeDoor s) :=
  h.of_figures (by simp) (by simp) (by simp) (by simp)

/-- Settles O6, operation by operation of those that move the cycle. -/
theorem exchangeKept : Obligations.ExchangeKept := by
  intro s t
  refine CycleInvariant.kept (P := ExchangeSound) ?_
  exact {
    same := ExchangeSound.congr
    started := fun _ _ _ => started_exchangeSound rfl
    failed := fun _ => started_exchangeSound rfl
    resetHeld := fun h => h.of_figures (by simp) (by simp) (by simp) (by simp)
    scanned := endScan_exchangeSound
    commit := fun mosi h hp => commitProgress_exchangeSound mosi h (by simp [hp])
    openCycle := openCycleOwner_exchangeSound
    hostStop := hostStopOwner_exchangeSound
    continueCycle := continueCycleOwner_exchangeSound
    closeCycle := closeCycleOwner_exchangeSound
    resumeAnswer := resumeAnswerOwner_exchangeSound
    assess := fun source off carried h _ => assess_exchangeSound source off carried h
    interval := intervalExpiry_exchangeSound
    fresh := freshnessLimit_exchangeSound
    still := stillSecond_exchangeSound
    grant := grant_exchangeSound
    loss := fun h => h.of_take (declareLoss_exchange _)
    door := seeDoor_exchangeSound }

end Sys2Proof.Machine
end

section
/-! The cycle over every step (R2, R9, R12, R71): what the context and the Assessor hold in each cycle state. -/

namespace Sys2Proof.Machine

/-! ## What a cycle state says -/

namespace CycleSound

variable {s t : State}

/-- The invariant looks at the power, at the context but for its timers, and at the Assessor's answer and mark. -/
theorem of_context (h : CycleSound s) (hp : t.power = .scanning → s.power = .scanning)
    (hc : t.context = { s.context with
      stillStarted := t.context.stillStarted, stillTicks := t.context.stillTicks,
      freshRunning := t.context.freshRunning, freshTicks := t.context.freshTicks })
    (ha : t.assessor.awaiting = s.assessor.awaiting) (hm : t.assessor.estimateMark = s.assessor.estimateMark) :
    CycleSound t := by
  obtain ⟨still, closed, opened, reason, place, resuming, awaiting, mark⟩ := h
  refine ⟨?_, ?_, ?_, ?_, ?_, ?_, ?_, ?_⟩ <;> rw [hc] <;> dsimp only
  case refine_7 =>
    intro w
    obtain ⟨power, rest⟩ := awaiting (ha ▸ w)
    exact ⟨mt hp power, rest⟩
  case refine_8 => exact fun hr => hm.trans (mark hr)
  all_goals assumption

theorem congr (h : CycleSound s) (same : SameCycle s t) : CycleSound t := by
  obtain ⟨hp, -, hc, ha, hm⟩ := same
  exact h.of_context (fun ht => hp ▸ ht) hc ha hm

theorem stopReason_none (h : CycleSound s) (hc : s.context.cycleState ≠ .stopped) : s.context.stopReason = none := by
  cases hr : s.context.stopReason with
  | none => rfl
  | some b => exact absurd (h.stopReason.mp (by simp [hr])) hc

theorem awaiting_false (h : CycleSound s) (hc : s.context.cycleState ≠ .interrupted) :
    s.assessor.awaiting = false := by
  cases ha : s.assessor.awaiting with
  | false => rfl
  | true => exact absurd (h.awaitingPlace ha).2.1 hc

theorem plan_none (h : CycleSound s) (hc : s.context.cycleState = .running ∨ s.context.cycleState = .noCycle) :
    s.context.plan = none := by
  cases hp : s.context.plan with
  | none => rfl
  | some p =>
    have place := h.planPlace (by simp [hp])
    obtain hc | hc := hc <;> simp [hc] at place

/-- A context at its NO_CYCLE values. -/
theorem of_closed (hc : s.context = { Context.initial with
      stillStarted := s.context.stillStarted, stillTicks := s.context.stillTicks,
      freshRunning := s.context.freshRunning, freshTicks := s.context.freshTicks })
    (ha : s.assessor.awaiting = false) : CycleSound s := by
  refine ⟨?_, ?_, ?_, ?_, ?_, ?_, fun w => ?_, ?_⟩
  case refine_7 => rw [ha] at w; cases w
  all_goals rw [hc]; simp [Context.initial]

/-- A context in RUNNING. -/
theorem of_running (hc : s.context.cycleState = .running) (still : s.context.still = 0)
    (progress : s.context.progress.isSome = true) (reason : s.context.stopReason = none)
    (plan : s.context.plan = none) (awaiting : s.assessor.awaiting = false)
    (mark : s.assessor.estimateMark = false) : CycleSound s := by
  constructor <;> simp [hc, still, progress, reason, plan, awaiting, mark]

/-- A still time in a state that may have one. -/
theorem with_still (h : CycleSound s) (hr : s.context.cycleState ≠ .running)
    (hn : s.context.cycleState ≠ .noCycle) (still ticks : Nat) :
    CycleSound { s with context := { s.context with still := still, stillTicks := ticks } } :=
  ⟨fun hc => absurd hc hr, fun hc => absurd hc hn, h.opened, h.stopReason, h.planPlace, h.resumingPlan,
    h.awaitingPlace, h.markPlace⟩

end CycleSound

/-! ## What the operations leave of the context -/

theorem guardExpiry_context (s : State) : (guardExpiry s).context = closedContext s.context := by
  simp [guardExpiry, enterNoCycle, closedContext]

theorem guardExpiry_awaiting (s : State) : (guardExpiry s).assessor.awaiting = false := by
  simp [guardExpiry]

theorem acceptCommit_context (p : Progress) (s : State) :
    (acceptCommit p s).context = { s.context with
      progress := some p, stale := false, aged := false, freshRunning := true, freshTicks := 0 } := by
  unfold acceptCommit
  dsimp only
  split <;> simp

theorem declareLoss_context (s : State) : (declareLoss s).context = (lossContext s).context := by
  simp only [declareLoss, refuseHeld, lossRecord]
  split <;> simp [lossContext, discardPlan]

theorem declareLoss_assessor (s : State) : (declareLoss s).assessor = (lossContext s).assessor := by
  simp only [declareLoss, refuseHeld, lossRecord]
  split <;> simp [lossContext, discardPlan]

theorem enterNoCycle_cycleSound (s : State) : CycleSound (enterNoCycle s) := .of_closed rfl rfl

/-- A request that closes the cycle and is completed. -/
theorem completeService_enterNoCycle_cycleSound (result : Result) (m : BitVec 24) (s : State) :
    CycleSound (completeService result m (enterNoCycle s)) :=
  (enterNoCycle_cycleSound s).of_context (by simp) (by simp only [completeService_frame]) (by simp) (by simp)

/-! ## The operations that move the cycle -/

theorem actOnPlan_cycleSound {s : State} (p : Plan) (h : CycleSound s) (hp : s.power ≠ .scanning)
    (hc : s.context.cycleState = .interrupted ∨ s.context.cycleState = .stopped) : CycleSound (actOnPlan p s) := by
  unfold actOnPlan
  dsimp only
  split
  · exact enterNoCycle_cycleSound _
  · have opened := h.opened
    have reason := h.stopReason
    obtain hc | hc := hc <;> constructor <;> simp_all

theorem assess_cycleSound {s : State} (source : OffSource) (off : OffTime) (carried : Nat) (h : CycleSound s)
    (hp : s.power = .running) : CycleSound (assess source off carried s) := by
  have added : ∀ still, s.context.cycleState = .interrupted ∨ s.context.cycleState = .stopped →
      CycleSound { s with
        context := { s.context with still := still }
        assessor := { s.assessor with stage := .provisional } } := fun still hc =>
    (h.with_still (by obtain hc | hc := hc <;> simp [hc]) (by obtain hc | hc := hc <;> simp [hc]) still
      s.context.stillTicks).congr ⟨rfl, rfl, rfl, rfl, rfl⟩
  unfold assess
  dsimp only
  split
  case h_1 => exact h.congr (by simp [SameCycle])
  case h_4 | h_5 => exact h
  all_goals
    rename_i hc
    split
    · exact actOnPlan_cycleSound _ (added _ (by simp [hc])) (by simp [hp]) (by simp [hc])
    · exact added _ (by simp [hc])

theorem commitProgress_cycleSound {s : State} (mosi : List Byte) (h : CycleSound s) :
    CycleSound (commitProgress mosi s) := by
  have rejected : CycleSound { s with port := { s.port with progressRejected := true } } :=
    h.congr ⟨rfl, rfl, rfl, rfl, rfl⟩
  unfold commitProgress
  split
  · rename_i p _
    split
    · rename_i accepted
      have hc : s.context.cycleState = .running := by simp_all [commitAccepted]
      exact .of_running (by simp [hc]) (by simp [h.runningStill hc]) (by simp [acceptCommit_context])
        (by simp [h.stopReason_none, hc]) (by simp [h.plan_none, hc]) (by simp [h.awaiting_false, hc])
        (by simp [h.markPlace hc])
    · exact rejected
  · exact rejected

theorem guardTest_cycleSound {s : State} (h : CycleSound s) : CycleSound (guardTest s) := by
  obtain ⟨-, he⟩ | ⟨-, he⟩ := guardTest_cases s
  · rwa [he]
  · rw [he]
    exact .of_closed (by rw [guardExpiry_context]; rfl) (guardExpiry_awaiting s)

theorem stillSecond_cycleSound {s : State} (h : CycleSound s) : CycleSound (stillSecond s) := by
  unfold stillSecond
  split
  · rename_i hs
    have counts : s.context.cycleState ≠ .running ∧ s.context.cycleState ≠ .noCycle := by
      have runs := hs.1
      constructor <;> intro hc <;> simp [stillRuns, hc] at runs
    exact guardTest_cycleSound (h.with_still counts.1 counts.2 _ _)
  · exact h

theorem finalise_cycleSound {s : State} (h : CycleSound s) (hc : s.context.cycleState = .resuming) :
    CycleSound (finalise s) := by
  unfold finalise
  split
  · exact .of_running (by simp) (by simp) (by simp) (by simp [h.stopReason_none, hc]) rfl (by simp) (by simp)
  · exact h

theorem grant_cycleSound {s : State} (p : StepRequest) (h : CycleSound s) : CycleSound (grant p s) := by
  have granted : CycleSound (grantStep p s) := h.congr (by simp [SameCycle])
  unfold grant
  dsimp only
  split
  · rename_i hr
    exact finalise_cycleSound granted (by simp [hr.1])
  · exact granted

theorem freshnessLimit_cycleSound {s : State} (h : CycleSound s) : CycleSound (freshnessLimit s) := by
  unfold freshnessLimit
  dsimp only
  split
  · rename_i hc
    split
    · exact h.congr ⟨rfl, rfl, rfl, rfl, rfl⟩
    · exact .of_running (by simp [hc.1]) (by simp [h.runningStill hc.1]) (by simp [h.opened, hc.1])
        (by simp [h.stopReason_none, hc.1]) (by simp [h.plan_none, hc.1]) (by simp [h.awaiting_false, hc.1])
        (by simp [h.markPlace hc.1])
  · exact h

theorem declareLoss_cycleSound {s : State} (h : CycleSound s) : CycleSound (declareLoss s) := by
  obtain ⟨still, closed, opened, reason, -, -, -, -⟩ := h
  have awaiting : (declareLoss s).assessor.awaiting = false := by simp [declareLoss_assessor]
  cases hc : s.context.cycleState <;> constructor <;>
    simp_all [declareLoss_context, lossContext, discardPlan]

theorem seeDoor_cycleSound {s : State} (h : CycleSound s) : CycleSound (seeDoor s) := by
  unfold seeDoor
  split
  · exact h
  · rename_i hc
    exact ⟨h.runningStill, fun hn => absurd hn hc, h.opened, h.stopReason, h.planPlace, h.resumingPlan,
      h.awaitingPlace, h.markPlace⟩

/-! ## The requests that own the cycle -/

theorem openCycleOwner_cycleSound {s : State} (r : Request) (h : CycleSound s) :
    CycleSound (openCycleOwner r s) := by
  have refused : ∀ x, CycleSound (completeService x 0 s) := fun x => h.congr (by simp [SameCycle])
  unfold openCycleOwner
  dsimp only
  split
  · exact refused _
  · rename_i hc
    split
    · exact refused _
    · split
      · exact refused _
      · exact .of_running (by simp) (by simp) (by simp [openedContext]) (by simp [openedContext])
          (by simp [openedContext]) (by simp_all [h.awaiting_false]) (by simp)

theorem hostStopOwner_cycleSound {s : State} (r : Request) (h : CycleSound s) :
    CycleSound (hostStopOwner r s) := by
  unfold hostStopOwner
  split
  · rename_i hc
    have awaiting := h.awaiting_false (by simp [hc])
    have opened := h.opened (by simp [hc])
    constructor <;> simp [stoppedContext, awaiting, opened]
  · exact h.congr (by simp [SameCycle])

theorem continueCycleOwner_cycleSound {s : State} (r : Request) (h : CycleSound s) :
    CycleSound (continueCycleOwner r s) := by
  unfold continueCycleOwner
  split
  · rename_i hc
    exact .of_running (by simp) (by simp) (by simp [h.opened, hc]) (by simp) (by simp) (by simp) (by simp)
  · exact h.congr (by simp [SameCycle])

theorem closeCycleOwner_cycleSound {s : State} (r : Request) (h : CycleSound s) :
    CycleSound (closeCycleOwner r s) := by
  unfold closeCycleOwner
  split
  case h_4 | h_5 => exact h.congr (by simp [SameCycle])
  all_goals exact completeService_enterNoCycle_cycleSound _ _ _

theorem acceptPlan_cycleSound {s : State} {plan : Plan} (h : CycleSound s)
    (hplan : awaitedPlan s = some plan) : CycleSound (acceptPlan plan s) := by
  obtain ⟨hc, -, hp⟩ := awaitedPlan_some hplan
  have opened := h.opened (by simp [hc])
  have reason := h.stopReason_none (by simp [hc])
  refine guardTest_cycleSound ?_
  constructor <;> simp [hp, opened, reason]

theorem resumeAnswerOwner_cycleSound {s : State} (r : Request) (h : CycleSound s) :
    CycleSound (resumeAnswerOwner r s) := by
  have refused : ∀ x, CycleSound (completeService x 0 s) := fun x => h.congr (by simp [SameCycle])
  unfold resumeAnswerOwner
  split
  · split
    · exact refused _
    · rename_i plan hplan
      split
      · exact refused _
      · exact acceptPlan_cycleSound h hplan
  · split
    · split
      · exact refused _
      · exact completeService_enterNoCycle_cycleSound _ _ _
    · exact refused _

/-! ## The statement -/

theorem recoveredContext_cycleSound {s : State} (r : Snapshot) (cycleState : CycleState) (reason : Option Byte)
    (aged : Bool) (hc : s.context = recoveredContext r cycleState reason aged)
    (hs : (cycleState = .stopped ∧ reason.isSome = true) ∨ (cycleState = .interrupted ∧ reason = none))
    (ha : s.assessor.awaiting = false) : CycleSound s := by
  obtain ⟨rfl, hr⟩ | ⟨rfl, rfl⟩ := hs <;> constructor <;>
    simp_all [recoveredContext, Context.initial]

theorem endScan_cycleSound {s : State} (h : CycleSound s) (hp : s.power = .scanning) : CycleSound (endScan s) := by
  have awaiting : (endScan s).assessor.awaiting = false := by
    cases ha : s.assessor.awaiting with
    | false => simp [ha]
    | true => exact absurd hp (h.awaitingPlace ha).1
  cases hn : newestRecord s.journal.slots with
  | none => exact .of_closed (by simp [endScan, hn, Context.initial]) awaiting
  | some x =>
    have context : (endScan s).context = contextFromRecord x.2.body := by simp [endScan, hn]
    unfold contextFromRecord at context
    split at context
    case h_1 => exact .of_closed (by rw [context]) awaiting
    case h_3 =>
      split at context
      · exact recoveredContext_cycleSound _ _ _ _ context (.inl ⟨rfl, rfl⟩) awaiting
      · exact recoveredContext_cycleSound _ _ _ _ context (.inr ⟨rfl, rfl⟩) awaiting
    case h_2 => exact recoveredContext_cycleSound _ _ _ _ context (.inl ⟨rfl, rfl⟩) awaiting
    all_goals exact recoveredContext_cycleSound _ _ _ _ context (.inr ⟨rfl, rfl⟩) awaiting

/-- Settles O7, operation by operation of those that move the cycle. -/
theorem cycleKept : Obligations.CycleKept := by
  intro s t
  refine CycleInvariant.kept (P := CycleSound) ?_
  exact {
    same := CycleSound.congr
    started := fun _ _ _ => .of_closed rfl rfl
    failed := fun _ => .of_closed rfl rfl
    resetHeld := fun h => h.of_context (by simp) (by simp) (by simp) (by simp)
    scanned := endScan_cycleSound
    commit := fun mosi h _ => commitProgress_cycleSound mosi h
    openCycle := openCycleOwner_cycleSound
    hostStop := hostStopOwner_cycleSound
    continueCycle := continueCycleOwner_cycleSound
    closeCycle := closeCycleOwner_cycleSound
    resumeAnswer := resumeAnswerOwner_cycleSound
    assess := assess_cycleSound
    interval := fun h => h.of_context (by simp) (by simp) (by simp) (by simp)
    fresh := freshnessLimit_cycleSound
    still := stillSecond_cycleSound
    grant := grant_cycleSound
    loss := declareLoss_cycleSound
    door := seeDoor_cycleSound }

end Sys2Proof.Machine
end

section
/-! The part after its first cold start meets every invariant (R14, R36, R54, R120, R141, R164). -/

namespace Sys2Proof.Machine

theorem reset_loadsSound : LoadsSound State.reset := by
  refine ⟨⟨by decide, nofun, .nil, .nil, nofun⟩, ?_⟩
  exact ⟨fun _ => ⟨rfl, rfl⟩, nofun, nofun, by decide, by decide, by decide, nofun, nofun⟩

theorem reset_lineSound : LineSound State.reset :=
  ⟨fun h => absurd rfl h, fun _ => rfl, fun _ => ⟨by decide, nofun⟩, by decide, nofun, nofun, by decide, .nil,
    nofun, ⟨by decide, by decide, nofun, by decide⟩⟩

theorem reset_claimSound : ClaimSound State.reset :=
  ⟨nofun, fun h => absurd rfl h, fun h => absurd rfl h, fun h => absurd rfl h, fun _ => ⟨rfl, rfl⟩, nofun⟩

/-- Every slot fails its check, so that any place fits the ring. -/
theorem reset_ringSound : RingSound State.reset := by
  have slots : State.reset.journal.slots = Vector.replicate 32 .failing := rfl
  have blank : RingAt 0 0 none State.reset.journal.slots := by
    intro i r _ hr
    have failing : (Vector.replicate 32 Slot.failing).get i = .failing := by simp [Vector.get]
    rw [slots, failing] at hr
    simp [Slot.valid?] at hr
  exact ⟨⟨0, 0, blank, fun h => by simp [State.reset, State.started] at h, fun f h => by cases h⟩,
    fun h => absurd rfl h⟩

/-- Settles O14. -/
theorem resetIsSound : Obligations.ResetIsSound :=
  ⟨by unfold WithinLimits; decide, started_exchangeSound rfl, .of_closed rfl rfl, fun h => absurd rfl h,
    reset_loadsSound, reset_lineSound, reset_claimSound, by unfold DemandWithinLimits; decide,
    reset_ringSound⟩

end Sys2Proof.Machine
end

section
/-! The own refusals of the cycle requests and of the step requests (R4 to R7, R9, R121, R130, R156). -/

namespace Sys2Proof.Machine

variable {s : State} {r : Request} {rest : List Request}

@[simp] theorem serving_frame (r : Request) (rest : List Request) (s : State) :
    (s.serving r rest).context = s.context ∧ (s.serving r rest).assessor = s.assessor
    ∧ (s.serving r rest).permits = s.permits ∧ (s.serving r rest).admission = s.admission := by
  simp [State.serving]

theorem refused_by_owner {k : RequestKind} {x : Result} (h : Served k s r rest)
    (hx : k.owner r (s.serving r rest) = completeService x 0 (s.serving r rest)) :
    exec k.command s = .next { s with port := answered r rest x 0 s.port } := by
  rw [exec_served h, hx, completeService_serving x h.free]

/-! ## The cycle requests -/

theorem openPhase_eq_none {b : Byte} (h1 : b ≠ 1) (h2 : b ≠ 2) : openPhase b = none := by
  unfold openPhase phaseOf
  rw [if_neg h1, if_neg h2]
  by_cases h3 : b = 3
  · rw [if_pos h3]
  · rw [if_neg h3]

theorem openCycleOwner_open (hc : s.context.cycleState ≠ .noCycle) :
    openCycleOwner r s = completeService .cycleOpen 0 s := by
  simp [openCycleOwner, hc]

theorem openCycleOwner_bad (hc : s.context.cycleState = .noCycle)
    (hb : num16 r.params 0 = 0 ∨ (byteAt r.params 2 ≠ 1 ∧ byteAt r.params 2 ≠ 2)) :
    openCycleOwner r s = completeService .badCycle 0 s := by
  unfold openCycleOwner
  rw [if_neg (by simp [hc])]
  split
  · rfl
  · rename_i ph hph
    obtain h0 | ⟨h1, h2⟩ := hb
    · rw [if_pos h0]
    · rw [openPhase_eq_none h1 h2] at hph
      cases hph

theorem awaitedPlan_none
    (h : s.context.cycleState ≠ .interrupted ∨ s.assessor.awaiting = false ∨ s.context.plan = none) :
    awaitedPlan s = none := by
  obtain h | h | h := h <;> simp [awaitedPlan, h]

theorem resumeAnswerOwner_badAnswer (h1 : r.param ≠ 1) (h2 : r.param ≠ 2) :
    resumeAnswerOwner r s = completeService .badAnswer 0 s := by
  rw [resumeAnswerOwner, if_neg h1, if_neg h2]

theorem resumeAnswerOwner_notAsked (hr : r.param = 1 ∨ r.param = 2) (ha : awaitedPlan s = none) :
    resumeAnswerOwner r s = completeService .notAsked 0 s := by
  obtain hr | hr := hr <;> simp [resumeAnswerOwner, hr, ha]

/-! ## The step requests -/

theorem requestStepOwner_refused {x : Result} (h : stepRefusal s r.param.toNat = some x) :
    requestStepOwner r s = completeService x 0 s := by
  simp [requestStepOwner, h]

/-- The refusals of REQUEST_STEP in the order of R121. -/
theorem stepRefusal_cases (n : Nat) :
    let runs := s.context.cycleState = .running ∨ s.context.cycleState = .resuming
    (n = 0 ∨ 6 < n → stepRefusal s n = some .badStep)
    ∧ (1 ≤ n → n ≤ 6 →
      (¬ runs → stepRefusal s n = some .notRunning)
      ∧ (runs → s.permits.doorOpen = true → stepRefusal s n = some .doorOpen)
      ∧ (runs → s.permits.doorOpen = false → (n ≤ heldLen s ∨ isPending s n = true) →
          stepRefusal s n = some .duplicate)
      ∧ (runs → s.permits.doorOpen = false → heldLen s < n → isPending s n = false → n ≠ 1 →
          heldUnmarked s (n - 1) = false → isPending s (n - 1) = false → stepRefusal s n = some .stepOrder)) := by
  intro runs
  have range : (n < 1 ∨ Config.stepCount < n) ↔ (n = 0 ∨ 6 < n) := by simp [Config.stepCount]
  have idle : (s.context.cycleState ≠ .running ∧ s.context.cycleState ≠ .resuming) ↔ ¬ runs := by
    simp [runs]
  unfold stepRefusal
  simp only [range, idle]
  refine ⟨fun bad => if_pos bad, fun low high => ?_⟩
  rw [if_neg (by omega)]
  refine ⟨fun off => if_pos off, fun on door => ?_, fun on door again => ?_, fun on door new free hn hh hp => ?_⟩
  · rw [if_neg (not_not_intro on), if_pos door]
  · rw [if_neg (not_not_intro on), if_neg (by simp [door]), if_pos (by simpa [isHeld, low] using again)]
  · have unheld : isHeld s n = false := by simp [isHeld]; omega
    rw [if_neg (not_not_intro on), if_neg (by simp [door]), if_neg (by simp [unheld, free]),
      if_pos (by simp [prerequisiteHeld, hn, hh, hp])]

theorem dropStepOwner_badStep (h : r.param.toNat = 0 ∨ 6 < r.param.toNat) :
    dropStepOwner r s = completeService .badStep 0 s := by
  have range : r.param.toNat < 1 ∨ Config.stepCount < r.param.toNat := by simp only [Config.stepCount]; omega
  simp only [dropStepOwner, range, if_true]

theorem dropStepOwner_notHeld (low : 1 ≤ r.param.toNat) (high : r.param.toNat ≤ 6)
    (hh : heldLen s < r.param.toNat) (hp : isPending s r.param.toNat = false) :
    dropStepOwner r s = completeService .notHeld 0 s := by
  have range : ¬ (r.param.toNat < 1 ∨ Config.stepCount < r.param.toNat) := by simp only [Config.stepCount]; omega
  have unheld : isHeld s r.param.toNat = false := by simp [isHeld]; omega
  unfold dropStepOwner
  dsimp only
  rw [if_neg range, if_neg (by simp [hp]), if_neg (by simp [unheld])]

/-! ## The statement -/

/-- Settles O21, request by request. -/
theorem ownTestsRefuse : Obligations.OwnTestsRefuse := by
  refine ⟨fun s r rest => ⟨fun h => ⟨fun hc => ?_, fun hc hb => ?_⟩, fun h hc => ?_, fun h hc => ?_,
    fun h hc => ?_, fun h => ⟨fun h1 h2 => ?_, fun hr ha => ?_, fun hr hc ha hp door => ?_⟩⟩,
    fun s r rest => ⟨fun h => ?_, fun h => ⟨fun bad => ?_, fun low high hh hp => ?_⟩⟩⟩
  · exact refused_by_owner h (openCycleOwner_open (by simpa using hc))
  · exact refused_by_owner h (openCycleOwner_bad (by simpa using hc) hb)
  · exact refused_by_owner h (by simp [RequestKind.owner, hostStopOwner, hc])
  · exact refused_by_owner h (by simp [RequestKind.owner, continueCycleOwner, hc])
  · obtain hc | hc := hc <;> exact refused_by_owner h (by simp [RequestKind.owner, closeCycleOwner, hc])
  · exact refused_by_owner h (resumeAnswerOwner_badAnswer h1 h2)
  · exact refused_by_owner h (resumeAnswerOwner_notAsked hr (awaitedPlan_none (by simpa using ha)))
  · obtain ⟨plan, hp⟩ := Option.ne_none_iff_exists'.mp hp
    have asked : awaitedPlan (s.serving r rest) = some plan := by simp [awaitedPlan, hc, ha, hp]
    exact refused_by_owner h (by simp [RequestKind.owner, resumeAnswerOwner, hr, asked, door])
  · have refuse := fun {x} (hx : stepRefusal (s.serving r rest) r.param.toNat = some x) =>
      refused_by_owner h (requestStepOwner_refused hx)
    obtain ⟨badStep, rest'⟩ := stepRefusal_cases (s := s.serving r rest) r.param.toNat
    refine ⟨fun bad => refuse (badStep bad), fun low high => ?_⟩
    obtain ⟨notRunning, doorOpen, duplicate, stepOrder⟩ := rest' low high
    exact ⟨fun off => refuse (notRunning off), fun on door => refuse (doorOpen on door),
      fun on door again => refuse (duplicate on door again),
      fun on door new free hn hh hp => refuse (stepOrder on door new free hn hh hp)⟩
  · exact refused_by_owner h (dropStepOwner_badStep bad)
  · exact refused_by_owner h (dropStepOwner_notHeld low high hh hp)

end Sys2Proof.Machine
end

section
/-! The cycle requests that are taken: OPEN_CYCLE, CONTINUE_CYCLE and RESUME_ANSWER (R4, R6, R9, R82, R83). -/

namespace Sys2Proof.Machine

variable {s : State} {r : Request} {rest : List Request}

/-- A record written where no buffer is NEWEST. -/
theorem writeRecord_of_no_newest {p : Progress} (k : RecordKind) (why : Reason)
    (hn : s.exchange.newest? = none) (hp : s.context.progress = some p) :
    writeRecord k why s = { s with journal := queuedJournal (recordOf k why s.context p s.gauge) s } := by
  rw [writeRecord_of_progress k why (fun q hq => by rw [hn] at hq; cases hq) hp, Exchange.take_of_none hn]

/-! ## OPEN_CYCLE and CONTINUE_CYCLE -/

theorem openPhase_of_phaseOf {b : Byte} {ph : Phase} (h : phaseOf b = some ph) (hg : ph ≠ .guarding) :
    openPhase b = some ph := by
  unfold openPhase
  cases ph <;> simp_all

/-- The figures that an OPEN_CYCLE carries beside its phase (R157). -/
def Request.figures (r : Request) (ph : Phase) : Progress :=
  ⟨num16 r.params 0, ph, num16 r.params 3, num16 r.params 5, num16 r.params 7⟩

theorem openCycleOwner_taken {ph : Phase} (hc : s.context.cycleState = .noCycle)
    (h0 : num16 r.params 0 ≠ 0) (hph : openPhase (byteAt r.params 2) = some ph) :
    openCycleOwner r s = completeService .done 0 (writeRecord .opened .zero
      (enterRunning { s with context := openedContext (r.figures ph) s.context })) := by
  simp only [openCycleOwner, hc, ne_eq, not_true_eq_false, if_false, hph, if_neg h0]
  rfl

theorem continueCycleOwner_taken (hc : s.context.cycleState = .stopped) :
    continueCycleOwner r s = completeService .done 0 (writeRecord .resumed .continued (enterRunning
      { discardPlan s with
        context := { (discardPlan s).context with stopReason := none, doorSeen := false } })) := by
  simp only [continueCycleOwner, hc, if_true]

/-- Settles O25: outside RUNNING no buffer is NEWEST, so that the record carries the context's figures and the
exchange stays. -/
theorem cycleOpensOrContinues : Obligations.CycleOpensOrContinues := by
  refine ⟨fun s r rest ph h hx hc h0 hph hg => ?_, fun s r rest p h hx hc hp => ?_⟩
  · have none_newest := hx.no_newest (by simp [hc])
    have owner := openCycleOwner_taken (s := s.serving r rest) hc h0 (openPhase_of_phaseOf hph hg)
    refine (exec_served h).trans (congrArg _ (owner.trans ?_))
    rw [writeRecord_of_no_newest (p := r.figures ph), completeService_served (s := s) (rest := rest)]
    case hn => exact none_newest
    case hf => exact h.free
    all_goals rfl
  · have none_newest := hx.no_newest (by simp [hc])
    have owner := continueCycleOwner_taken (s := s.serving r rest) (r := r) hc
    refine (exec_served h).trans (congrArg _ (owner.trans ?_))
    rw [writeRecord_of_no_newest (p := p), completeService_served (s := s) (rest := rest)]
    case hn => exact none_newest
    case hp => exact hp
    case hf => exact h.free
    all_goals rfl

/-! ## RESUME_ANSWER -/

theorem guardExpired_eq_false {p : Progress} (hp : s.context.progress = some p)
    (h : s.context.cycleState = .resuming → p.phase = .guarding → s.context.still < p.remaining) :
    guardExpired s = false := by
  unfold guardExpired
  by_cases hc : s.context.cycleState = .resuming <;> by_cases hg : p.phase = .guarding <;> simp_all

theorem guardExpired_eq_true {p : Progress} (hp : s.context.progress = some p)
    (hc : s.context.cycleState = .resuming) (hg : p.phase = .guarding) (h : p.remaining ≤ s.context.still) :
    guardExpired s = true := by
  simp [guardExpired, hp, hc, hg, h]

/-- A PLAN_FINAL of an expired guard carries the context's flags and no stop reason (R83 step 4). -/
theorem postExpiry_eq {plan : Plan} {p : Progress} (hplan : s.context.plan = some plan)
    (hp : s.context.progress = some p) :
    postExpiry s = { s with port := postedPort (.planFinal (planReport
      { plan with
        action := .finish, still := some s.context.still, reheat := none, figures := ⟨none, none, none, none⟩,
        aged := s.context.aged, base := none, stage := .finalStage } s.context p)) s } := by
  simp only [postExpiry, hplan, postPlanFinal, post_eq]
  simp [reportOf, planReport, expiredPlan, hp, Figures.absent]

/-- The steps of a guard expiry after the requests have gone (R83 steps 3 to 5), where no buffer is NEWEST. -/
theorem enterNoCycle_postExpiry_eq {plan : Plan} {p : Progress} (hn : s.exchange.newest? = none)
    (hplan : s.context.plan = some plan) (hp : s.context.progress = some p) :
    enterNoCycle (postExpiry (writeRecord .closed (.close .guardExpired) s)) = { s with
      context := closedContext s.context
      exchange := s.exchange.mapBuffers Buffer.emptied
      assessor := { s.assessor with awaiting := false, stage := .provisional, estimateMark := false }
      journal := queuedJournal (recordOf .closed (.close .guardExpired) s.context p s.gauge) s
      port := postedPort (.planFinal (planReport
        { plan with
          action := .finish, still := some s.context.still, reheat := none,
          figures := ⟨none, none, none, none⟩, aged := s.context.aged, base := none,
          stage := .finalStage } s.context p)) s } := by
  rw [writeRecord_of_no_newest _ _ hn hp, postExpiry_eq (plan := plan) (p := p)]
  case hplan => exact hplan
  case hp => exact hp
  rfl

/-- With nothing pending no claim is announced. -/
theorem ClaimSound.unannounced (h : ClaimSound s) (hp : s.admission.pending = []) : announcedStep s = none := by
  cases hc : announcedStep s with
  | none => rfl
  | some n =>
    obtain ⟨head, -, -⟩ := h.claimed n hc
    rw [hp] at head
    cases head

theorem settleChain_of_empty (hp : s.admission.pending = []) (hc : announcedStep s = none) :
    settleChain s = s := by
  rw [settleChain_eq, hp]
  simp only [splitChain, List.map_nil, List.append_nil]
  rw [← hp]
  simp [withdrawUnfounded, hc]

theorem cancelStep_of_empty (n : Nat) (hp : s.admission.pending = []) : cancelStep n s = s := by
  simp [cancelStep, hp]

theorem declinePlan_eq {p : Progress} (hn : s.exchange.newest? = none) (hp : s.context.progress = some p) :
    declinePlan s = completeService .done 0 { s with
      context := closedContext s.context
      exchange := s.exchange.mapBuffers Buffer.emptied
      assessor := { s.assessor with awaiting := false, stage := .provisional, estimateMark := false }
      journal := queuedJournal (recordOf .closed (.close .declined) s.context p s.gauge) s } := by
  rw [declinePlan, writeRecord_of_no_newest _ _ hn hp]
  rfl

theorem resumeAnswerOwner_accept {plan : Plan} (hr : r.param = 1) (ha : awaitedPlan s = some plan)
    (door : s.permits.doorOpen = false) : resumeAnswerOwner r s = acceptPlan plan s := by
  rw [resumeAnswerOwner, if_pos hr, ha]
  simp [door]

theorem resumeAnswerOwner_decline {plan : Plan} (hr : r.param = 2) (ha : awaitedPlan s = some plan) :
    resumeAnswerOwner r s = declinePlan s := by
  rw [resumeAnswerOwner, if_neg (by simp [hr]), if_pos hr, ha]

/-- The cycle in RESUMING with its answer taken and the request completed DONE (R9). -/
def State.resuming (plan : Plan) (r : Request) (rest : List Request) (s : State) : State :=
  { s with
    context := { s.context with cycleState := .resuming, base := plan.base.getD s.context.base }
    assessor := { s.assessor with awaiting := false }
    port := answered r rest .done 0 s.port }

theorem acceptPlan_serving (plan : Plan) (hf : s.port.inService = none) :
    acceptPlan plan (s.serving r rest) = guardTest (s.resuming plan r rest) := by
  unfold acceptPlan
  dsimp only
  rw [completeService_served (s := s) (rest := rest)]
  case hf => exact hf
  all_goals rfl

/-- Settles O27: the answer taken, then the guard test at the entry into RESUMING, where nothing is pending yet. -/
theorem resumeAnswerTaken : Obligations.ResumeAnswerTaken := by
  intro s r rest plan p h hx hclaim hc ha hplan hp base final
  have none_newest := hx.no_newest (by simp [hc])
  have empty : s.admission.pending = [] := by
    by_contra hne
    simpa [hc] using hclaim.pendingCycle hne
  have asked : awaitedPlan (s.serving r rest) = some plan := by simp [awaitedPlan, hc, ha, hplan]
  have accepted : r.param = 1 → s.permits.doorOpen = false →
      exec .resumeAnswer s = .next (guardTest (s.resuming plan r rest)) := fun hr door =>
    (exec_served h).trans
      (congrArg _ ((resumeAnswerOwner_accept hr asked door).trans (acceptPlan_serving plan h.free)))
  refine ⟨fun hr door early => ?_, fun hr door hg late => ?_, fun hr => ?_⟩
  · have passes : guardExpired (s.resuming plan r rest) = false :=
      guardExpired_eq_false (p := p) hp fun _ hg => early.resolve_left (not_not_intro hg)
    rw [accepted hr door, guardTest, passes]
    rfl
  · have expired : guardExpired (s.resuming plan r rest) = true := guardExpired_eq_true (p := p) hp rfl hg late
    have settled : settleChain (cancelStep 1 (s.resuming plan r rest)) = s.resuming plan r rest := by
      rw [cancelStep_of_empty 1 (by exact empty)]
      exact settleChain_of_empty empty (hclaim.unannounced empty)
    rw [accepted hr door, guardTest, expired, if_pos rfl, guardExpiry, settled,
      enterNoCycle_postExpiry_eq (plan := plan) (p := p)]
    case hn => exact none_newest
    case hplan => exact hplan
    case hp => exact hp
    rfl
  · refine (exec_served h).trans (congrArg _ ((resumeAnswerOwner_decline hr asked).trans ?_))
    rw [declinePlan_eq (p := p), completeService_served (s := s) (rest := rest)]
    case hn => exact none_newest
    case hp => exact hp
    case hf => exact h.free
    all_goals rfl

end Sys2Proof.Machine
end

section
/-! WRITE_PROGRESS (R15 to R17, R162). -/

namespace Sys2Proof.Machine

variable {s : State}

/-- The context with an accepted commit's figures (R15). -/
def committedContext (p : Progress) (c : Context) : Context :=
  { c with progress := some p, stale := false, aged := false, freshRunning := true, freshTicks := 0 }

theorem padTo_single (n : Nat) (b : Byte) : padTo (n + 1) [b] = b :: List.replicate n 0 := by
  simp [padTo]

theorem exec_writeProgress (record : List Byte) (hp : s.power = .running) :
    exec (.writeProgress (0x96 :: record)) s = .next
      { (writeProgressBody record s).1 with port := { (writeProgressBody record s).1.port with
        sdo := byte8 (eventsWaiting s) :: List.replicate record.length 0 } } := by
  have nothing_out : (writeProgressBody record s).2 = [] := by
    unfold writeProgressBody
    split <;> rfl
  refine congrArg _ ((transaction_running .writeProgress record writeProgressBody hp).trans ?_)
  rw [nothing_out, shiftOut, List.length_cons, padTo_single]

theorem writeProgressBody_short {record : List Byte} (h : record.length < 10) :
    (writeProgressBody record s).1 = s := by
  simp [writeProgressBody, Config.progressBytes, h]

theorem writeProgressBody_full {record : List Byte} (h : 10 ≤ record.length) :
    (writeProgressBody record s).1 = commitProgress record s := by
  simp [writeProgressBody, Config.progressBytes, Nat.not_lt.mpr h]

/-- The four tests of a commit (R15). -/
theorem commitAccepted_iff {p q : Progress} {c : Context} (hq : c.progress = some q) :
    commitAccepted p c = true ↔
      c.cycleState = .running ∧ p.cycleId = q.cycleId ∧ q.phase.rank ≤ p.phase.rank := by
  simp [commitAccepted, hq]

theorem commitProgress_rejected {record : List Byte}
    (h : progressOf record = none ∨ s.context.cycleState ≠ .running
      ∨ ∃ p q, progressOf record = some p ∧ s.context.progress = some q
          ∧ (p.cycleId ≠ q.cycleId ∨ p.phase.rank < q.phase.rank)) :
    commitProgress record s = { s with port := { s.port with progressRejected := true } } := by
  unfold commitProgress
  split
  · rename_i p hp
    refine if_neg fun accepted => ?_
    obtain h | h | ⟨p', q, hp', hq, h⟩ := h
    · rw [hp] at h
      cases h
    · simp [commitAccepted, h] at accepted
    · obtain ⟨-, id, rank⟩ := (commitAccepted_iff hq).mp accepted
      obtain rfl : p = p' := Option.some.inj (hp.symm.trans hp')
      omega
  · rfl

theorem commitProgress_accepted {record : List Byte} {p q : Progress} (hp : progressOf record = some p)
    (hc : s.context.cycleState = .running) (hq : s.context.progress = some q) (id : p.cycleId = q.cycleId)
    (rank : q.phase.rank ≤ p.phase.rank) : commitProgress record s = acceptCommit p s := by
  simp only [commitProgress, hp, (commitAccepted_iff hq).mpr ⟨hc, id, rank⟩, if_true]

theorem Phase.rank_injective {a b : Phase} (h : a.rank = b.rank) : a = b := by
  cases a <;> cases b <;> simp_all [Phase.rank, Phase.code]

/-- A commit of the context's phase moves no record. -/
theorem acceptCommit_samePhase {p q : Progress} (hq : s.context.progress = some q) (h : p.phase = q.phase) :
    acceptCommit p s = { s with
      exchange := s.exchange.commit p, context := committedContext p s.context } := by
  simp [acceptCommit, phaseAdvances, hq, h, committedContext]

/-- A commit of a later phase is taken into a PROGRESS record at once. -/
theorem acceptCommit_laterPhase {p q : Progress} (roles : s.exchange.Roles) (hq : s.context.progress = some q)
    (h : q.phase.rank < p.phase.rank) :
    acceptCommit p s = { s with
      exchange := (s.exchange.commit p).take
      context := committedContext p s.context
      journal := queuedJournal (recordOf .progress .zero (committedContext p s.context) p s.gauge) s } := by
  simp only [acceptCommit, phaseAdvances, hq, h, decide_true, if_true]
  rw [writeRecord_of_progress (p := p)]
  case hn => exact fun r hr => (roles.commit_newest p).symm.trans hr
  all_goals rfl

theorem Exchange.take_journalHeld {e : Exchange} {p : Progress} (h : e.newest? = some p) :
    e.take.a = .journalHeld p ∨ e.take.b = .journalHeld p ∨ e.take.c = .journalHeld p := by
  rw [Exchange.take_of_some h]
  obtain h | h | h := Exchange.newest?_mem h <;> simp [Exchange.mapBuffers, h, Buffer.handedOver]

/-- Settles O19: a cut transaction, a rejected record, and an accepted one of the same or of a later phase. -/
theorem progressCommits : Obligations.ProgressCommits := by
  refine ⟨fun record s hp => ⟨fun short => ?_, fun full bad => ?_⟩, ?_⟩
  · rw [exec_writeProgress record hp, writeProgressBody_short short]
  · rw [exec_writeProgress record hp, writeProgressBody_full full, commitProgress_rejected bad]
  · intro record s p q hp hx full hr hc hq id rank
    have newest := hx.roles.commit_newest p
    rw [exec_writeProgress record hp, writeProgressBody_full full, commitProgress_accepted hr hc hq id rank]
    refine ⟨_, rfl, ?_⟩
    by_cases same : p.phase = q.phase
    · rw [acceptCommit_samePhase hq same]
      have held := fun r => Exchange.commit_journalHeld hx.roles p r
      exact ⟨rfl, rfl, (hx.roles.commit p).oneHostWrite, fun _ => ⟨rfl, newest, held⟩,
        fun other => absurd same other, fun b hb => by cases b <;> simp_all [Block.Same]⟩
    · have later : q.phase.rank < p.phase.rank :=
        lt_of_le_of_ne rank fun eq => same (Phase.rank_injective eq.symm)
      rw [acceptCommit_laterPhase hx.roles hq later]
      exact ⟨rfl, rfl, (hx.roles.commit p).take.oneHostWrite, fun eq => absurd eq same,
        fun _ => ⟨rfl, Exchange.take_newest _, Exchange.take_journalHeld newest⟩,
        fun b hb => by cases b <;> simp_all [Block.Same]⟩

end Sys2Proof.Machine
end

section
/-! The journal interval, the freshness timer, the still timer's second and the end of the recovery scan (R3, R12,
R13, R23, R34, R35). -/

namespace Sys2Proof.Machine

variable {s : State}

/-! ## The journal interval and the freshness timer -/

theorem queuedJournal_restarted (b : Snapshot) (n : Nat) (s : State) :
    queuedJournal b { s with journal := { s.journal with intervalTicks := n } }
      = { queuedJournal b s with intervalTicks := n } := by
  unfold queuedJournal
  dsimp only
  split <;> rfl

theorem intervalExpiry_early (h : s.journal.intervalTicks < intervalLimit s) : intervalExpiry s = s :=
  if_neg fun due => absurd due.2 (Nat.not_le.mpr h)

theorem intervalExpiry_due (hr : s.journal.intervalRunning = true)
    (h : intervalLimit s ≤ s.journal.intervalTicks) :
    intervalExpiry s = match s.exchange.newest? with
      | some _ => writeRecord .progress .zero { s with journal := { s.journal with intervalTicks := 0 } }
      | none => { s with journal := { s.journal with intervalTicks := 0 } } :=
  if_pos ⟨hr, h⟩

theorem freshnessLimit_early (h : s.context.freshTicks < staleTicks s) : freshnessLimit s = s :=
  if_neg fun due => absurd due.2.2 (Nat.not_le.mpr h)

/-- At the stale limit in RUNNING the timer stops and STALE stands, with its event the first time (R13). -/
theorem freshnessLimit_due {p : Progress} (hc : s.context.cycleState = .running)
    (hr : s.context.freshRunning = true) (h : staleTicks s ≤ s.context.freshTicks)
    (hp : s.context.progress = some p) :
    freshnessLimit s = { s with
      context := { s.context with stale := true, freshRunning := false, freshTicks := staleTicks s }
      port := if s.context.stale then s.port else postedPort (.progressStale p.cycleId) s } := by
  refine (if_pos ⟨hc, hr, h⟩).trans ?_
  dsimp only
  split
  · rename_i stale
    rw [← stale]
  · rw [post_eq, hp]
    rfl

/-- Settles O32. -/
theorem journalIntervalAndFreshness : Obligations.JournalIntervalAndFreshness := by
  refine ⟨fun s hp hx hr => ⟨fun early => ?_, fun due => ⟨fun hn => ?_, fun p hn => ?_⟩⟩,
    fun s p hp hc hr hg => ⟨fun early => ?_, fun due => ?_⟩⟩
  · exact (whenRunning_running _ hp).trans (congrArg _ (intervalExpiry_early early))
  · refine (whenRunning_running _ hp).trans (congrArg _ ?_)
    rw [intervalExpiry_due hr due, hn]
  · refine (whenRunning_running _ hp).trans (congrArg _ ?_)
    have taken := Exchange.take_of_some hn
    rw [intervalExpiry_due hr due, hn]
    dsimp only
    rw [writeRecord_of_progress (p := p), queuedJournal_restarted, ← taken]
    case hn => exact hx.newest_progress
    case hp => exact hx.newest_progress p hn
  · exact (whenRunning_running _ hp).trans (congrArg _ (freshnessLimit_early early))
  · refine ⟨_, (whenRunning_running _ hp).trans (congrArg _ (freshnessLimit_due hc hr due hg)), rfl, ?_, ?_, ?_⟩
    · exact fun stale => by simp [stale]
    · exact fun fresh => by simp [fresh]
    · exact fun b hb => by cases b <;> simp_all [Block.Same]

/-! ## The still timer -/

theorem stillRuns_of (started : s.context.stillStarted = true)
    (hc : s.context.cycleState = .interrupted ∨ s.context.cycleState = .resuming
      ∨ s.context.cycleState = .stopped)
    (hm : s.supply.supplyState = .onMains
      ∨ (s.supply.supplyState = .starting ∧ s.gauge.startup ≠ .noneYet)) : stillRuns s = true := by
  have state : (s.context.cycleState == .interrupted || s.context.cycleState == .resuming
      || s.context.cycleState == .stopped) = true := by simpa [or_assoc] using hc
  have mains : (s.supply.supplyState == .onMains
      || (s.supply.supplyState == .starting && readingEnded s.gauge)) = true := by
    simpa [readingEnded] using hm
  rw [stillRuns, started, state, mains]
  rfl

/-- The state with one second more of still time, before the guard test (R12). -/
def State.oneSecondOn (s : State) : State :=
  { s with context := { s.context with still := min 65535 (s.context.still + 1), stillTicks := 0 } }

theorem stillSecond_early (h : s.context.stillTicks < 100) : stillSecond s = s :=
  if_neg fun due => absurd due.2 (Nat.not_le.mpr h)

theorem stillSecond_due (runs : stillRuns s = true) (h : 100 ≤ s.context.stillTicks) :
    stillSecond s = guardTest s.oneSecondOn :=
  if_pos ⟨runs, h⟩

/-- Settles O33. -/
theorem stillTimerAddsASecond : Obligations.StillTimerAddsASecond := by
  intro s hp started hc hm
  have taken := whenRunning_running stillSecond hp
  refine ⟨fun early => taken.trans (congrArg _ (stillSecond_early early)), fun due safe => ?_⟩
  refine taken.trans (congrArg _ ((stillSecond_due (stillRuns_of started hc hm) due).trans ?_))
  have passes : guardExpired s.oneSecondOn = false := by
    cases hg : s.context.progress with
    | none => simp [guardExpired, State.oneSecondOn, hg]
    | some p => exact guardExpired_eq_false (p := p) hg fun hr phase => safe p hr hg phase
  rw [guardTest, passes]
  rfl

/-! ## The recovery scan -/

theorem exec_recoveryScan (hp : s.power = .scanning) : exec .recoveryScan s = .next (endScan s) := by
  simp [exec, execRecoveryScan, hp]

/-- What the scan hands on of the newest record, or of none (R34, R35). -/
theorem endScan_handsOn :
    (∀ i r, newestRecord s.journal.slots = some (i, r) →
      (endScan s).journal.nextSlot.val = (i + 1) % 32 ∧ (endScan s).journal.nextSeq = r.seq + 1
      ∧ (endScan s).assessor.estimateMark = r.body.estimated ∧ (endScan s).gauge.journalN0 = r.body.n0
      ∧ (endScan s).context = contextFromRecord r.body)
    ∧ (newestRecord s.journal.slots = none →
      (endScan s).journal.nextSlot = 0 ∧ (endScan s).journal.nextSeq = 1
      ∧ (endScan s).assessor.estimateMark = false ∧ (endScan s).gauge.journalN0 = 0
      ∧ (endScan s).context = Context.initial) := by
  refine ⟨fun i r h => ?_, fun h => ?_⟩ <;> simp [endScan, h]

/-- The fields that a context from a record has in every case (R3). -/
theorem contextFromRecord_timers (r : Snapshot) :
    (contextFromRecord r).doorSeen = false ∧ (contextFromRecord r).plan = none
    ∧ (contextFromRecord r).stillStarted = false ∧ (contextFromRecord r).stillTicks = 0
    ∧ (contextFromRecord r).freshRunning = false ∧ (contextFromRecord r).freshTicks = 0 := by
  unfold contextFromRecord
  (repeat' split) <;> simp [recoveredContext, Context.initial]

/-- The context by the record's kind and, for a LOSS record, its cycle state (R3). -/
theorem contextFromRecord_byKind (r : Snapshot) :
    (r.kind = .closed → contextFromRecord r = Context.initial)
    ∧ (r.kind ≠ .closed → (contextFromRecord r).progress = some r.progress
        ∧ (contextFromRecord r).still = r.still ∧ (contextFromRecord r).base = r.base
        ∧ (contextFromRecord r).stale = r.stale)
    ∧ ((r.kind = .stopped ∨ (r.kind = .loss ∧ r.cycleState = .stopped)) →
        (contextFromRecord r).cycleState = .stopped ∧ (contextFromRecord r).stopReason = some r.reason.byte)
    ∧ ((r.kind = .opened ∨ r.kind = .progress ∨ r.kind = .resumed) →
        (contextFromRecord r).cycleState = .interrupted ∧ (contextFromRecord r).stopReason = none
        ∧ (contextFromRecord r).aged = true)
    ∧ (r.kind = .loss → (contextFromRecord r).aged = r.aged
        ∧ (r.cycleState = .interrupted →
            (contextFromRecord r).cycleState = .interrupted ∧ (contextFromRecord r).stopReason = none)) := by
  unfold contextFromRecord
  cases r.kind
  case loss => cases r.cycleState <;> simp [recoveredContext]
  all_goals simp [recoveredContext]

/-- Settles O36. -/
theorem recoveryScanEnds : Obligations.RecoveryScanEnds := by
  refine ⟨fun s hp => ⟨_, exec_recoveryScan hp, ?_⟩, fun s hp => ⟨_, exec_recoveryScan hp, ?_⟩⟩
  all_goals obtain ⟨found, blank⟩ := endScan_handsOn (s := s)
  · refine ⟨rfl, rfl, rfl, rfl, fun i r h => ?_, fun h => ?_, rfl, rfl, fun b hb => ?_⟩
    · obtain ⟨slot, seq, mark, n0, -⟩ := found i r h
      exact ⟨slot, seq, mark, n0⟩
    · obtain ⟨slot, seq, mark, n0, -⟩ := blank h
      exact ⟨slot, seq, mark, n0⟩
    · cases b <;> simp_all [Block.Same]
  · cases h : newestRecord s.journal.slots with
    | none =>
      obtain ⟨-, -, -, -, context⟩ := blank h
      rw [context]
      refine ⟨rfl, rfl, rfl, rfl, rfl, rfl, fun _ => rfl, fun _ _ hr => ?_⟩
      cases hr
    | some x =>
      obtain ⟨-, -, -, -, context⟩ := found x.1 x.2 h
      obtain ⟨door, plan, started, ticks, fresh, freshTicks⟩ := contextFromRecord_timers x.2.body
      rw [context]
      refine ⟨door, plan, started, ticks, fresh, freshTicks, nofun, fun i r hr => ?_⟩
      cases hr
      exact contextFromRecord_byKind r.body

end Sys2Proof.Machine
end

section
/-! A release of every step (R93, R99, R127, R132 to R134, R146, R149): what leaves the Admission Unit, the permits,
the events and the frames. -/

namespace Sys2Proof.Machine

variable {s t : State}

/-! ## Frames -/

theorem onlyFrames_of (h : t.line.mode = s.line.mode ∧ t.line.duplicateMark = s.line.duplicateMark
      ∧ t.line.presenceRunning = s.line.presenceRunning ∧ t.line.presenceTicks = s.line.presenceTicks
      ∧ t.line.joinRunning = s.line.joinRunning ∧ t.line.joinTicks = s.line.joinTicks
      ∧ t.line.joinSlotDone = s.line.joinSlotDone ∧ t.line.receiver = s.line.receiver) : OnlyFrames s t := by
  obtain ⟨mode, mark, presence, presenceTicks, join, joinTicks, slot, receiver⟩ := h
  unfold OnlyFrames
  dsimp only
  rw [← mode, ← mark, ← presence, ← presenceTicks, ← join, ← joinTicks, ← slot, ← receiver]

/-- The withdrawal's frame depends on the claim and the settings alone. -/
theorem WithdrawalFrame.congr {l l' : Line} (h : WithdrawalFrame t l l')
    (hc : t.admission.claim = s.admission.claim) (hs : t.settings = s.settings) : WithdrawalFrame s l l' := by
  have announced : announcedStep t = announcedStep s := by simp [announcedStep, hc]
  have frame : ∀ n, frameOfStep .withdrawn n t = frameOfStep .withdrawn n s := fun n => by
    simp [frameOfStep, cfg_congr hs]
  exact ⟨fun hn => h.1 (announced.trans hn), fun n hn => frame n ▸ h.2 n (announced.trans hn)⟩

theorem releaseAtOnce_frames (low : Nat) (s : State) :
    (heldLen s < low → (releaseAtOnce low s).line = s.line)
    ∧ (low ≤ heldLen s → FrameOffered ⟨.released, if low = 1 then 0 else heldLen s,
        sumFeeder (cfg s) low (heldLen s), sumDuct (cfg s) low (heldLen s), false⟩
        s.line (releaseAtOnce low s).line) := by
  obtain ⟨few, he⟩ | ⟨many, he⟩ := releaseAtOnce_cases s low
  · exact ⟨fun _ => by rw [he], fun h => absurd h (by omega)⟩
  · refine ⟨fun h => absurd h (by omega), fun _ => ?_⟩
    have line : (takeAway low s).line = s.line := by simp
    have offered := offer_frameOffered (takeAway low s) (releasedFrame (cfg s) low (heldLen s)) nofun
    rw [line] at offered
    rw [he]
    exact offered

/-- The frames of a release followed, with nothing offered between, by the withdrawal of the claim. -/
theorem releaseFrames_of (low : Nat) {s s0 u : State}
    (start : s0.line = s.line ∧ s0.admission.held = s.admission.held ∧ s0.settings = s.settings)
    (between : u.line = (releaseAtOnce low s0).line ∧ u.admission.claim = s.admission.claim
      ∧ u.settings = s.settings) : ReleaseFrames low s s.line (withdrawClaim u).line := by
  obtain ⟨hl, hh, hs⟩ := start
  obtain ⟨ul, uc, us⟩ := between
  obtain ⟨few, many⟩ := releaseAtOnce_frames low s0
  rw [heldLen_congr hh, hl, ← ul] at few
  rw [heldLen_congr hh, hl, cfg_congr hs, ← ul] at many
  exact ⟨u.line, few, many, (withdrawClaim_withdrawalFrame u).congr uc us⟩

/-! ## The permits -/

/-- Every permit low, with no duty and no period (R141). -/
def Permits.lowered (p : Permits) : Permits :=
  { p with drum := false, air := false, heat := false, duty := 0, period := none, blank := false }

theorem Permits.lowered_eq_self {p : Permits} (steps : p.drum = false ∧ p.air = false)
    (output : p.heat = false ∧ p.duty = 0 ∧ p.period = none ∧ p.blank = false) : p.lowered = p := by
  cases p
  simp_all [Permits.lowered]

/-- The permits after every step has left: a forced drop where heat was held, and otherwise as they follow the
steps. -/
theorem takeAway_one_permits (noHeat : heatCount s = 0 → s.permits.heat = false ∧ s.permits.duty = 0
      ∧ s.permits.period = none ∧ s.permits.blank = false) : (takeAway 1 s).permits = s.permits.lowered := by
  unfold takeAway followSteps forcedDrop
  dsimp only
  split
  · simp [heldLen, heatCount, Permits.lowered]
  · rename_i h
    obtain ⟨heat, duty, period, blank⟩ := noHeat (by simp [heatCount, heldLen] at h ⊢; omega)
    simp [heldLen, Permits.lowered, heat, duty, period, blank]

theorem releaseAtOnce_one_permits (noHeat : heatCount s = 0 → s.permits.heat = false ∧ s.permits.duty = 0
      ∧ s.permits.period = none ∧ s.permits.blank = false)
    (noStep : heldLen s = 0 → s.permits.drum = false ∧ s.permits.air = false) :
    (releaseAtOnce 1 s).permits = s.permits.lowered := by
  obtain ⟨few, he⟩ | ⟨-, he⟩ := releaseAtOnce_cases s 1
  · rw [he, Permits.lowered_eq_self (noStep (by omega)) (noHeat (by simp [heatCount]; omega))]
  · rw [he]
    simpa using takeAway_one_permits noHeat

theorem PermitsSound.noHeat (h : PermitsSound s) (hh : heatCount s = 0) :
    s.permits.heat = false ∧ s.permits.duty = 0 ∧ s.permits.period = none ∧ s.permits.blank = false := by
  have duty : s.permits.duty = 0 := by
    have le := h.dutyHeld
    omega
  refine ⟨?_, duty, h.counter.mpr duty, ?_⟩
  · cases heat : s.permits.heat with
    | false => rfl
    | true =>
      obtain ⟨-, -, -, -, starts⟩ := h.interlock heat
      omega
  · cases blank : s.permits.blank with
    | false => rfl
    | true => exact absurd duty (h.blankDuty blank)

theorem PermitsSound.noStep (h : PermitsSound s) (hp : s.power = .running) (hh : heldLen s = 0) :
    s.permits.drum = false ∧ s.permits.air = false := by
  obtain ⟨drum, air⟩ := h.follow (by simp [hp])
  exact ⟨by simpa [hh] using drum, by simpa [hh] using air⟩

/-! ## The Admission Unit and the events -/

theorem releaseAtOnce_one_admission (s : State) :
    (releaseAtOnce 1 s).admission = { s.admission with held := [] } := by
  obtain ⟨few, he⟩ | ⟨-, he⟩ := releaseAtOnce_cases s 1
  · have none_held : s.admission.held = [] := List.eq_nil_of_length_eq_zero (by simpa [heldLen] using few)
    rw [he, ← none_held]
  · rw [he]
    simp [takeAway]

theorem releaseAtOnce_port (low : Nat) (s : State) : (releaseAtOnce low s).port = s.port := by
  simp

/-- With nothing held every waiter for a step completes (R133, R134). -/
theorem finishWaiters_of_empty (h : heldLen s = 0) :
    finishWaiters s = { s with
      admission := { s.admission with waiters := s.admission.waiters.filter (fun w => w.step = 0) }
      port := { s.port with
        events := s.port.events ++ waiterCompletions (s.admission.waiters.filter (fun w => 0 < w.step)) } } := by
  have kept : (fun w : Waiter => !decide (0 < w.step)) = fun w => decide (w.step = 0) := by
    funext w
    simp [Nat.pos_iff_ne_zero]
  rw [finishWaiters_eq, h, kept]
  rfl

theorem finishWaiters_releaseAtOnce_one (s : State) :
    (finishWaiters (releaseAtOnce 1 s)).admission = { s.admission with
      held := [], waiters := s.admission.waiters.filter (fun w => w.step = 0) }
    ∧ (finishWaiters (releaseAtOnce 1 s)).port = { s.port with
      events := s.port.events ++ waiterCompletions (s.admission.waiters.filter (fun w => 0 < w.step)) } := by
  have admission := releaseAtOnce_one_admission s
  have none_held : heldLen (releaseAtOnce 1 s) = 0 := by simp [heldLen, admission]
  rw [finishWaiters_of_empty none_held, admission, releaseAtOnce_port]
  exact ⟨rfl, rfl⟩

/-- What an event posted leaves of the port looks at the port, the pending requests and the waiters alone. -/
theorem postedPort_congr (e : Event) (hport : t.port = s.port)
    (hp : t.admission.pending = s.admission.pending) (hw : t.admission.waiters = s.admission.waiters) :
    postedPort e t = postedPort e s := by
  have counted : outstanding t = outstanding s := outstanding_congr (by rw [hport]) (by rw [hport]) hp hw
  rw [postedPort, postedPort, counted, eventsWaiting, eventsWaiting, hport]

theorem queuedJournal_congr (b : Snapshot) (hj : t.journal = s.journal) (hs : t.supply = s.supply) :
    queuedJournal b t = queuedJournal b s := by
  simp [queuedJournal, hj, hs]

/-- With nothing pending a withdrawal puts no test off. -/
theorem withdrawClaim_admission (hp : s.admission.pending = []) :
    (withdrawClaim s).admission = { s.admission with claim := .unannounced } := by
  have idle : ∀ n, isPending s n = false := fun n => by simp [isPending, hp]
  obtain ⟨hc, he⟩ | ⟨n, -, he⟩ := withdrawClaim_cases s
  · have unannounced := withdrawClaim_claim s
    rw [he] at unannounced ⊢
    rw [← unannounced]
  · rw [he]
    simp [idle]

theorem withdrawClaim_port (s : State) : (withdrawClaim s).port = s.port := by
  simp

end Sys2Proof.Machine
end

section
/-! The door's opening and closing (R148 to R150). -/

namespace Sys2Proof.Machine

variable {s : State}

theorem doorChanged_iff : doorChanged s.permits = true ↔
    s.permits.doorRaw ≠ s.permits.doorOpen ∧ 2 ≤ s.permits.doorCount := by
  rw [doorChanged, Bool.and_eq_true, bne_iff_ne, decide_eq_true_iff]
  rfl

/-- The part with the opening recognised and the permits low (R149 steps 1 and 2). -/
def State.doorRead (s : State) : State :=
  permitsDown { s with permits := { s.permits with doorOpen := true, doorCount := 0 } }

/-- The part once every step has been released and the pending requests refused (R149 steps 2 to 4). -/
def State.doorReleased (s : State) : State :=
  let u := finishWaiters (releaseAtOnce 1 s.doorRead)
  completeAllPending .doorOpen (if 1 ≤ heldLen s then postStepLost 1 .door u else u)

theorem openDoor_eq (s : State) : openDoor s = seeDoor (withdrawClaim s.doorReleased) := rfl

theorem doorReleased_frame (s : State) :
    s.doorReleased.line = (releaseAtOnce 1 s.doorRead).line ∧ s.doorReleased.context = s.context
    ∧ s.doorReleased.settings = s.settings := by
  unfold State.doorReleased
  dsimp only
  split <;> simp [State.doorRead]

theorem doorReleased_permits (s : State) : s.doorReleased.permits =
    { s.permits with
      drum := false, air := false, heat := false, duty := 0, period := none, blank := false,
      doorOpen := true, doorCount := 0 } := by
  have released : (releaseAtOnce 1 s.doorRead).permits = s.doorRead.permits.lowered :=
    releaseAtOnce_one_permits (fun _ => ⟨rfl, rfl, rfl, rfl⟩) fun _ => ⟨rfl, rfl⟩
  have same : s.doorReleased.permits = (releaseAtOnce 1 s.doorRead).permits := by
    unfold State.doorReleased
    dsimp only
    split <;> simp
  exact same.trans released

theorem doorReleased_admission (s : State) : s.doorReleased.admission =
    { s.admission with
      held := [], pending := [], waiters := s.admission.waiters.filter (fun w => w.step = 0) } := by
  obtain ⟨admission, -⟩ := finishWaiters_releaseAtOnce_one s.doorRead
  unfold State.doorReleased
  dsimp only
  rw [completeAllPending_eq]
  split
  · rw [postStepLost, post_eq, admission]
    rfl
  · rw [admission]
    rfl

theorem doorReleased_port (s : State) :
    let done : Port := { s.port with
      events := s.port.events ++ waiterCompletions (s.admission.waiters.filter (fun w => 0 < w.step)) }
    let lost : Port := if heldLen s = 0 then done
      else postedPort (.stepLost 1 .door 0) { s with
        port := done
        admission := { s.admission with waiters := s.admission.waiters.filter (fun w => w.step = 0) } }
    s.doorReleased.port
      = { lost with events := lost.events ++ stepCompletions .doorOpen s.admission.pending } := by
  intro done lost
  obtain ⟨admission, port⟩ := finishWaiters_releaseAtOnce_one s.doorRead
  have none_held : heldLen (finishWaiters (releaseAtOnce 1 s.doorRead)) = 0 := by simp [heldLen, admission]
  unfold State.doorReleased
  dsimp only
  rw [completeAllPending_eq]
  split
  · rename_i had
    have posted : lost = postedPort (.stepLost 1 .door 0) (finishWaiters (releaseAtOnce 1 s.doorRead)) := by
      refine (if_neg (by omega)).trans (postedPort_congr _ port ?_ ?_).symm <;> rw [admission] <;> rfl
    rw [postStepLost, post_eq, none_held, posted, admission]
    rfl
  · have posted : lost = done := if_pos (by omega)
    rw [posted, admission, port]
    rfl

theorem seeDoor_context (s : State) : (seeDoor s).context = { s.context with
    doorSeen := s.context.doorSeen || decide (s.context.cycleState ≠ .noCycle) } := by
  unfold seeDoor
  split
  · rename_i hc
    have outside : decide (s.context.cycleState ≠ .noCycle) = false := by simp [hc]
    rw [outside, Bool.or_false]
  · rename_i hc
    simp [hc]

theorem exec_doorOpening (hp : s.power = .running) (hr : s.permits.doorRaw = true)
    (hc : doorChanged s.permits = true) : exec .doorOpening s = .next (openDoor s) := by
  simp [exec, execDoorOpening, whenRunning, hp, hr, hc]

theorem exec_doorClosing (hp : s.power = .running) (hr : s.permits.doorRaw = false)
    (hc : doorChanged s.permits = true) : exec .doorClosing s = .next { s with
      permits := { s.permits with doorOpen := false, doorCount := 0 } } := by
  simp [exec, execDoorClosing, whenRunning, hp, hr, hc]

/-- Settles O60. -/
theorem doorReadingChanges : Obligations.DoorReadingChanges := by
  refine ⟨fun s hp closed => ⟨fun early => ?_, fun raw count => ?_⟩,
    fun s hp opened => ⟨fun early => ?_, fun raw count => ?_⟩⟩
  · have unchanged : ¬ (doorChanged s.permits = true ∧ s.permits.doorRaw = true) := by
      rw [doorChanged_iff]
      rintro ⟨⟨-, count⟩, raw⟩
      obtain low | few := early
      · simp [raw] at low
      · omega
    simp [exec, execDoorOpening, whenRunning, unchanged]
  · have changed : doorChanged s.permits = true := doorChanged_iff.mpr ⟨by simp [raw, closed], count⟩
    have admission := doorReleased_admission s
    obtain ⟨line, context, settings⟩ := doorReleased_frame s
    refine ⟨_, exec_doorOpening hp raw changed, ?_, ?_, ?_, ?_, ?_, ?_, ?_⟩
    · simpa [openDoor_eq] using doorReleased_permits s
    · simpa [openDoor_eq, admission] using withdrawClaim_admission (s := s.doorReleased) (by rw [admission])
    · have kept : (withdrawClaim s.doorReleased).context = s.context := by simp [context]
      rw [openDoor_eq, seeDoor_context, kept]
    · have frames := releaseFrames_of 1 (s := s) (s0 := s.doorRead) (u := s.doorReleased) ⟨rfl, rfl, rfl⟩
        ⟨line, by rw [admission], settings⟩
      simpa [openDoor_eq] using frames
    · simpa [openDoor_eq] using doorReleased_port s
    · exact onlyFrames_of (by simp)
    · exact fun b hb => by cases b <;> simp_all [Block.Same]
  · have unchanged : ¬ (doorChanged s.permits = true ∧ s.permits.doorRaw = false) := by
      rw [doorChanged_iff]
      rintro ⟨⟨-, count⟩, raw⟩
      obtain high | few := early
      · simp [raw] at high
      · omega
    simp [exec, execDoorClosing, whenRunning, unchanged]
  · exact exec_doorClosing hp raw (doorChanged_iff.mpr ⟨by simp [raw, opened], count⟩)

end Sys2Proof.Machine
end

section
/-! HOST_STOP and CLOSE_CYCLE (R2, R5, R7, R93, R99, R100, R127, R134, R146). -/

namespace Sys2Proof.Machine

variable {s : State} {r : Request} {rest : List Request}

/-! ## The release for the host -/

/-- The part once every step has been released and every pending request cancelled, before the claim goes. -/
def State.hostReleased (s : State) : State := completeAllPending .cancelled (finishWaiters (releaseAtOnce 1 s))

theorem releaseAllForHost_eq (s : State) : releaseAllForHost s = withdrawClaim s.hostReleased := rfl

theorem hostReleased_admission (s : State) : s.hostReleased.admission =
    { s.admission with
      held := [], pending := [], waiters := s.admission.waiters.filter (fun w => w.step = 0) } := by
  obtain ⟨admission, -⟩ := finishWaiters_releaseAtOnce_one s
  rw [State.hostReleased, completeAllPending_eq, admission]

theorem hostReleased_port (s : State) : s.hostReleased.port = { s.port with
    events := s.port.events ++ waiterCompletions (s.admission.waiters.filter (fun w => 0 < w.step))
      ++ stepCompletions .cancelled s.admission.pending } := by
  obtain ⟨admission, port⟩ := finishWaiters_releaseAtOnce_one s
  rw [State.hostReleased, completeAllPending_eq, admission, port]
  rfl

theorem releaseAllForHost_admission (s : State) : (releaseAllForHost s).admission =
    { s.admission with
      held := [], pending := [], claim := .unannounced,
      waiters := s.admission.waiters.filter (fun w => w.step = 0) } := by
  have admission := hostReleased_admission s
  rw [releaseAllForHost_eq, withdrawClaim_admission (by rw [admission]), admission]

theorem releaseAllForHost_port (s : State) : (releaseAllForHost s).port = { s.port with
    events := s.port.events ++ waiterCompletions (s.admission.waiters.filter (fun w => 0 < w.step))
      ++ stepCompletions .cancelled s.admission.pending } := by
  rw [releaseAllForHost_eq, withdrawClaim_port, hostReleased_port]

theorem releaseAllForHost_permits (noHeat : heatCount s = 0 → s.permits.heat = false ∧ s.permits.duty = 0
      ∧ s.permits.period = none ∧ s.permits.blank = false)
    (noStep : heldLen s = 0 → s.permits.drum = false ∧ s.permits.air = false) :
    (releaseAllForHost s).permits = s.permits.lowered := by
  simpa [releaseAllForHost_eq, State.hostReleased] using releaseAtOnce_one_permits noHeat noStep

theorem releaseAllForHost_releaseFrames (s : State) : ReleaseFrames 1 s s.line (releaseAllForHost s).line :=
  releaseFrames_of 1 (u := s.hostReleased) ⟨rfl, rfl, rfl⟩
    ⟨by simp [State.hostReleased], by rw [hostReleased_admission], by simp [State.hostReleased]⟩

/-- The release's frames do not look beyond the held steps, the claim, the settings and the line. -/
theorem ReleaseFrames.congr {t : State} {low : Nat} {l l' : Line} (h : ReleaseFrames low t l l')
    (ha : t.admission = s.admission) (hs : t.settings = s.settings) : ReleaseFrames low s l l' := by
  have held : heldLen t = heldLen s := heldLen_congr (by rw [ha])
  obtain ⟨between, few, many, withdrawn⟩ := h
  rw [held] at few
  rw [held, cfg_congr hs] at many
  exact ⟨between, few, many, withdrawn.congr (by rw [ha]) hs⟩

/-- The release for the host in a state `u` whose steps, permits and line are those of `s`. -/
theorem releaseAllForHost_of_same {u : State} (hp : s.power = .running) (sound : PermitsSound s)
    (same : u.admission = s.admission ∧ u.permits = s.permits ∧ u.line = s.line ∧ u.settings = s.settings) :
    (releaseAllForHost u).admission = { s.admission with
      held := [], pending := [], claim := .unannounced,
      waiters := s.admission.waiters.filter (fun w => w.step = 0) }
    ∧ ReleaseFrames 1 s s.line (releaseAllForHost u).line
    ∧ (releaseAllForHost u).permits = { s.permits with
        drum := false, air := false, heat := false, duty := 0, period := none, blank := false } := by
  obtain ⟨admission, permits, line, settings⟩ := same
  have noHeat : heatCount u = 0 → _ := fun h =>
    sound.noHeat ((heatCount_congr (t := u) (by rw [admission])).symm.trans h)
  have noStep : heldLen u = 0 → _ := fun h =>
    sound.noStep hp ((heldLen_congr (t := u) (by rw [admission])).symm.trans h)
  rw [← permits] at noHeat noStep
  refine ⟨admission ▸ releaseAllForHost_admission u, ?_, permits ▸ releaseAllForHost_permits noHeat noStep⟩
  exact line ▸ (releaseAllForHost_releaseFrames u).congr admission settings

/-! ## The requests -/

theorem Request.stepByte_of_kind {k : RequestKind} (hk : r.kind = k.code) (hr : k ≠ .requestStep)
    (hd : k ≠ .dropStep) : r.stepByte = 0 := by
  cases k <;> simp_all [Request.stepByte, RequestKind.code]

/-- The completion of the served request after other events have been posted. -/
theorem completeService_port {t : State} {events : List Event} (result : Result) (hf : s.port.inService = none)
    (port : t.port = { (s.serving r rest).port with events := events }) :
    (completeService result 0 t).port = { s.port with
      requests := rest, events := events ++ [.completion r.tag r.kind result r.stepByte 0] } := by
  rw [completeService_some (r := r) result 0 (by rw [port]; rfl), port]
  simp [State.serving, hf]

/-- The part with HOST_STOP in service and the cycle stopped, before the release (R5). -/
def State.stopping (r : Request) (rest : List Request) (s : State) : State :=
  { s.serving r rest with context := stoppedContext r.param s.context }

theorem hostStopOwner_taken (hc : s.context.cycleState = .running) :
    hostStopOwner r (s.serving r rest) = completeService .done 0
      (writeRecord .stopped (.stop r.param) (releaseAllForHost (s.stopping r rest))) :=
  if_pos hc

theorem closeCycleOwner_taken (hc : s.context.cycleState = .running ∨ s.context.cycleState = .stopped
      ∨ s.context.cycleState = .resuming) :
    closeCycleOwner r s = completeService .done 0 (enterNoCycle
      (writeRecord .closed (.close (closeReasonOf r.param)) (releaseAllForHost s))) := by
  obtain hc | hc | hc := hc <;> simp only [closeCycleOwner, hc]

/-- A record written after the release for the host, in the words of the state before it. -/
theorem writeRecord_releaseAllForHost {p : Progress} (k : RecordKind) (why : Reason)
    (hn : ∀ q, s.exchange.newest? = some q → s.context.progress = some q) (hp : s.context.progress = some p) :
    (writeRecord k why (releaseAllForHost s)).journal
      = queuedJournal (recordOf k why s.context p s.gauge) s := by
  rw [writeRecord_of_progress (p := p)]
  case hn => simpa using hn
  case hp => simpa using hp
  dsimp only
  rw [queuedJournal_congr (s := s) _ (by simp) (by simp)]
  simp

/-- The port once the release for the host has been made and the request completed DONE. -/
theorem completeService_released_port {t u : State} (hf : s.port.inService = none) (hk : r.stepByte = 0)
    (port : t.port = (releaseAllForHost u).port) (hu : u.port = (s.serving r rest).port)
    (ha : u.admission = s.admission) :
    (completeService .done 0 t).port = { s.port with
      requests := rest
      events := s.port.events ++ waiterCompletions (s.admission.waiters.filter (fun w => 0 < w.step))
        ++ stepCompletions .cancelled s.admission.pending ++ [.completion r.tag r.kind .done 0 0] } := by
  rw [releaseAllForHost_port, hu, ha] at port
  rw [completeService_port .done hf port, hk]
  rfl

/-- Settles O26: one release for both requests, then the record of the cycle as it stands, then the state. -/
theorem stopAndCloseReleaseEverything : Obligations.StopAndCloseReleaseEverything := by
  refine ⟨fun s r rest p h hl hx hc hg => ?_, fun s r rest p h hl hx hg hc => ?_⟩
  all_goals have step : r.stepByte = 0 := Request.stepByte_of_kind h.kind nofun nofun
  · obtain ⟨admission, frames, permits⟩ := releaseAllForHost_of_same (u := s.stopping r rest) h.running hl.2
      ⟨rfl, rfl, rfl, rfl⟩
    refine ⟨_, (exec_served h).trans (congrArg _ (hostStopOwner_taken hc)), ?_, ?_, ?_, ?_, ?_, ?_, ?_, ?_, ?_⟩
    · simp [State.stopping, stoppedContext]
    · simpa using admission
    · simpa using frames
    · exact onlyFrames_of (by simp [State.stopping, State.serving])
    · simpa using permits
    · simp only [completeService_frame, writeRecord_frame, releaseAllForHost_frame]
      exact writeRecord_releaseAllForHost (s := s.stopping r rest) _ _ hx.newest_progress hg
    · simp [State.stopping, State.serving]
    · exact completeService_released_port (u := s.stopping r rest) h.free step (by simp) rfl rfl
    · exact fun b hb => by cases b <;> simp_all [Block.Same, State.stopping, State.serving]
  · obtain ⟨admission, frames, permits⟩ := releaseAllForHost_of_same (u := s.serving r rest) h.running hl.2
      ⟨rfl, rfl, rfl, rfl⟩
    refine ⟨_, (exec_served h).trans (congrArg _ (closeCycleOwner_taken hc)), ?_, ?_, ?_, ?_, ?_, ?_, ?_, ?_,
      ?_, ?_⟩
    · simp [closedContext, enterNoCycle]
    · simp [Exchange.emptied_take, State.serving]
    · simp [enterNoCycle]
    · simpa using admission
    · simpa using frames
    · exact onlyFrames_of (by simp [State.serving])
    · simpa using permits
    · simp only [completeService_frame, enterNoCycle_frame]
      exact writeRecord_releaseAllForHost (s := s.serving r rest) _ _ hx.newest_progress hg
    · exact completeService_released_port (u := s.serving r rest) h.free step (by simp) rfl rfl
    · exact fun b hb => by cases b <;> simp_all [Block.Same, State.serving]

end Sys2Proof.Machine
end

section
/-! The guard expiry (R83): with nothing held, cancelling the DRUM request leaves every other one an orphan. -/

namespace Sys2Proof.Machine

variable {s : State}

theorem splitChain_orphans {heldBelow : Nat → Bool} {l : List StepRequest}
    (h : ∀ p ∈ l, heldBelow p.step = false) : splitChain heldBelow l [] = ([], l) := by
  induction l with
  | nil => rfl
  | cons p rest ih =>
    have orphans := ih fun q hq => h q (List.mem_cons_of_mem p hq)
    simp [splitChain, h p List.mem_cons_self, orphans]

/-- With nothing pending a claim is unfounded. -/
theorem withdrawUnfounded_of_empty (hp : s.admission.pending = []) : withdrawUnfounded s = withdrawClaim s := by
  unfold withdrawUnfounded
  split
  · rename_i hc
    simp [withdrawClaim, hc]
  · simp [isPending, hp]

theorem prerequisiteHeld_of_empty (hh : s.admission.held = []) (n : Nat) :
    prerequisiteHeld s n = decide (n = 1) := by
  simp [prerequisiteHeld, heldUnmarked, hh]

/-- With nothing held the lowest pending request is for DRUM. -/
theorem lowestPending_drum (hs : StepsSound s) (hcl : ClaimSound s) (hh : s.admission.held = [])
    (q : StepRequest) (hq : s.admission.pending.head? = some q) : q.step = 1 := by
  obtain ⟨rest, hp⟩ := List.head?_eq_some_iff.mp hq
  have rising := hs.pendingRising
  have above := (hs.pendingAbove q (by simp [hp])).1
  rw [hp, List.pairwise_cons] at rising
  obtain first | below := hcl.chained q (by simp [hp])
  · simpa [prerequisiteHeld_of_empty hh] using first
  · rw [isPending, hp, List.any_eq_true] at below
    obtain ⟨x, hx, step⟩ := below
    rw [beq_iff_eq] at step
    obtain rfl | hx := List.mem_cons.mp hx
    · omega
    · have later := rising.1 x hx
      omega

/-- The DRUM request and those chained above it completed in step order, and the claim withdrawn (R83 steps 1
and 2). -/
theorem settleChain_cancelStep_drum (hh : s.admission.held = [])
    (rising : s.admission.pending.Pairwise (fun p q => p.step < q.step))
    (lowest : ∀ q, s.admission.pending.head? = some q → q.step = 1) :
    settleChain (cancelStep 1 s) = withdrawClaim (completeAllPending .cancelled s) := by
  cases hp : s.admission.pending with
  | nil =>
    rw [cancelStep_of_empty 1 hp, settleChain_eq, withdrawUnfounded_of_empty (by rw [hp]; rfl),
      completeAllPending_eq, hp]
    rfl
  | cons q rest =>
    have drum := lowest q (by simp [hp])
    rw [hp, List.pairwise_cons] at rising
    have others : rest.filter (fun x => x.step != 1) = rest := List.filter_eq_self.mpr fun x hx => by
      have later := rising.1 x hx
      simp only [bne_iff_ne]
      omega
    have cancelled : cancelStep 1 s = completeStep .cancelled q
        { s with admission := { s.admission with pending := rest } } := by
      simp [cancelStep, hp, drum, others]
    have orphans : splitChain (prerequisiteHeld (cancelStep 1 s)) rest [] = ([], rest) :=
      splitChain_orphans fun x hx => by
        have later := rising.1 x hx
        rw [prerequisiteHeld_of_empty (by simp [hh]), decide_eq_false_iff_not]
        omega
    have left : (cancelStep 1 s).admission.pending = rest := by simp [cancelled]
    rw [settleChain_eq, left, orphans, withdrawUnfounded_of_empty rfl, cancelled, completeAllPending_eq, hp]
    simp [completeStep, addEvent]

/-- The state of a guard expiry once the requests are cancelled and the claim has gone (R83 steps 1 and 2). -/
def State.unclaimed (s : State) : State := withdrawClaim (completeAllPending .cancelled s.oneSecondOn)

theorem unclaimed_admission (s : State) :
    s.unclaimed.admission = { s.admission with pending := [], claim := .unannounced } := by
  rw [State.unclaimed, withdrawClaim_admission (by rw [completeAllPending_eq]), completeAllPending_eq]
  rfl

theorem unclaimed_port (s : State) : s.unclaimed.port = { s.port with
    events := s.port.events ++ stepCompletions .cancelled s.admission.pending } := by
  rw [State.unclaimed, withdrawClaim_port, completeAllPending_eq]
  rfl

theorem unclaimed_withdrawalFrame (s : State) : WithdrawalFrame s s.line s.unclaimed.line := by
  have frame := withdrawClaim_withdrawalFrame (completeAllPending .cancelled s.oneSecondOn)
  rw [show (completeAllPending .cancelled s.oneSecondOn).line = s.line by simp [State.oneSecondOn]] at frame
  exact frame.congr (by simp [State.oneSecondOn]) (by simp [State.oneSecondOn])

theorem guardTest_oneSecondOn (hs : StepsSound s) (hcl : ClaimSound s) (hh : s.admission.held = [])
    (expired : guardExpired s.oneSecondOn = true) : guardTest s.oneSecondOn
      = enterNoCycle (postExpiry (writeRecord .closed (.close .guardExpired) s.unclaimed)) := by
  have lowest := lowestPending_drum hs hcl hh
  rw [guardTest, if_pos expired, guardExpiry,
    settleChain_cancelStep_drum (s := s.oneSecondOn) hh hs.pendingRising lowest]
  rfl

/-- Settles O34. -/
theorem guardExpires : Obligations.GuardExpires := by
  intro s p plan hp started hm hc due hl hcl hx hg hplan phase late still expired final cancelled
  have none_held : s.admission.held = [] := by
    by_contra held
    simpa [hc] using hcl.heldCycle held
  have guard : guardExpired s.oneSecondOn = true := guardExpired_eq_true (p := p) hg hc phase late
  have second : exec .stillTimerSecond s = .next (guardTest s.oneSecondOn) :=
    (whenRunning_running _ hp).trans (congrArg _ (stillSecond_due (stillRuns_of started (.inr (.inl hc)) hm) due))
  have context : s.unclaimed.context = expired := by simp [State.unclaimed, State.oneSecondOn, expired, still]
  have gauge : s.unclaimed.gauge = s.gauge := by simp [State.unclaimed, State.oneSecondOn]
  have admission := unclaimed_admission s
  rw [guardTest_oneSecondOn hl.1 hcl none_held guard, enterNoCycle_postExpiry_eq (plan := plan) (p := p)] at second
  case hn => simpa [State.unclaimed, State.oneSecondOn] using hx.no_newest (by simp [hc])
  case hplan => simpa [context] using hplan
  case hp => simpa [context] using hg
  rw [context, gauge] at second
  refine ⟨_, second, rfl, ?_, ?_, admission, ?_, ?_, unclaimed_withdrawalFrame s, ?_, ?_⟩
  · simp [State.unclaimed, State.oneSecondOn]
  · simp [State.unclaimed, State.oneSecondOn]
  · exact queuedJournal_congr _ (by simp [State.unclaimed, State.oneSecondOn])
      (by simp [State.unclaimed, State.oneSecondOn])
  · exact postedPort_congr (s := { s with port := cancelled, admission := { s.admission with pending := [] } }) _
      (unclaimed_port s) (by rw [admission]) (by rw [admission])
  · exact onlyFrames_of (by simp [State.unclaimed, State.oneSecondOn])
  · exact fun b hb => by cases b <;> simp_all [Block.Same, State.unclaimed, State.oneSecondOn]

end Sys2Proof.Machine
end

section
/-! The loss sequence (R8, R20, R41, R42, R50, R57, R63, R66, R105, R107): its stages as states of their own, the
last being the refusal of a request held in service. -/

namespace Sys2Proof.Machine

variable {s : State}

/-! ## The stages -/

/-- The part after step 2: the permits low, the gauge released. -/
def State.lossGauge (s : State) : State := { permitsDown s with gauge := s.gauge.release }

/-- The part after step 5: the steps gone, the newest buffer taken, the context in its state after the loss, the
LOSS record queued. -/
def State.lossRecorded (s : State) : State := lossRecord (lossAdmission s.lossGauge)

/-- The part after step 6 and MAINS_LOST. -/
def State.lossTold (s : State) : State :=
  let u := vacateLine (heldLen s) s.lossRecorded
  post (.mainsLost u.context.cycleState) u

/-- The part once it has entered HOLDING, before a request held in service is refused. -/
def State.lossHeld (s : State) : State :=
  enterHolding { s.lossTold with
    supply := { s.lossTold.supply with lossRunning := true, lossTicks := 0, lossReading := 0 } }

theorem declareLoss_eq (s : State) : declareLoss s = completeService .supplyLost 0 s.lossHeld := rfl

theorem exec_dropout (hp : s.power = .running) (absent : 3 ≤ s.supply.absence)
    (hm : s.supply.supplyState = .starting ∨ s.supply.supplyState = .onMains) :
    exec .dropout s = .next (declareLoss s) := by
  have gone : mainsPresent s = false := decide_eq_false (Nat.not_lt.mpr absent)
  refine (whenRunning_running _ hp).trans (congrArg _ ?_)
  obtain hm | hm := hm <;> simp [dropout, gone, hm]

/-! ## The gauge (R57, R63) -/

theorem Gauge.abandon_eq (g : Gauge) : g.abandon = { g with
    converting := false
    chargingTicks := if g.converting = true ∧ g.gaugeState = .charging then 0 else g.chargingTicks
    refreshTicks := if g.converting = true ∧ g.gaugeState = .armed then 0 else g.refreshTicks } := by
  obtain ⟨idle, he⟩ | ⟨busy, he⟩ := abandon_cases g
  · have same : g = { g with converting := false } := by rw [← idle]
    rw [he]
    simpa [idle] using same
  · rw [he]
    simp [busy]

/-- The gauge's state at a loss by the state it was in. -/
theorem Gauge.release_eq (g : Gauge) : g.release = match g.gaugeState with
    | .measuring => { g.abandon with
        gaugeState := .released, releasedFromArmed := false, startup := .abandoned, logRatio := .unknown }
    | .charging => { g.abandon with gaugeState := .released, releasedFromArmed := false }
    | .armed => { g.abandon with gaugeState := .released, releasedFromArmed := true }
    | .idle => g.abandon
    | .fault => g.abandon
    | .released => g.abandon := by
  have same : g.abandon.gaugeState = g.gaugeState := by rw [Gauge.abandon_eq]
  rw [Gauge.release, Gauge.releaseState, same]
  cases g.gaugeState <;> rfl

/-! ## The Admission Unit and the events (R41 step 3) -/

/-- What a loss leaves of the Admission Unit: the DROP_STEP waiters for step 0 alone. -/
def Admission.afterLoss (a : Admission) : Admission :=
  { Admission.initial with waiters := a.waiters.filter (fun w => w.step = 0) }

/-- The port once the requests and the waiters are completed. -/
def State.lossCompleted (s : State) : Port := { s.port with
  events := s.port.events
    ++ stepCompletions .cancelled s.admission.pending
    ++ waiterCompletions (s.admission.waiters.filter (fun w => 0 < w.step)) }

/-- The port once STEP_LOST has been posted, if a step was held. -/
def State.lossPort (s : State) : Port := if 1 ≤ heldLen s
  then postedPort (.stepLost 1 .loss 0) { s with port := s.lossCompleted, admission := s.admission.afterLoss }
  else s.lossCompleted

theorem lossAdmission_eq (s : State) :
    lossAdmission s = { s with admission := s.admission.afterLoss, port := s.lossPort } := by
  unfold lossAdmission
  dsimp only
  rw [completeAllPending_eq, finishWaiters_of_empty rfl]
  unfold State.lossPort
  split
  · rw [postStepLost, post_eq,
      postedPort_congr (s := { s with port := s.lossCompleted, admission := s.admission.afterLoss })]
    all_goals rfl
  · rfl

/-! ## The context and its record (R8, R20) -/

/-- The cycle state after a loss (R8). -/
def CycleState.afterLoss : CycleState → CycleState
  | .running => .interrupted | .resuming => .interrupted | .noCycle => .noCycle
  | .stopped => .stopped | .interrupted => .interrupted

theorem CycleState.afterLoss_eq_stopped {c : CycleState} : c.afterLoss = .stopped ↔ c = .stopped := by
  cases c <;> simp [CycleState.afterLoss]

theorem lossContext_context (s : State) : (lossContext s).context = { s.context with
    cycleState := s.context.cycleState.afterLoss
    plan := none, stillStarted := false, stillTicks := 0, freshRunning := false } := by
  cases hc : s.context.cycleState <;> simp [lossContext, discardPlan, hc, CycleState.afterLoss]

theorem lossReason_eq (c : Context) :
    lossReason c = if c.cycleState = .stopped then .stop (c.stopReason.getD 0) else .zero := by
  unfold lossReason
  cases c.cycleState <;> rfl

theorem lossRecord_noCycle (hc : s.context.cycleState = .noCycle) : (lossRecord s).journal = s.journal := by
  simp [lossRecord, hc]

/-- The LOSS record of an open cycle, in the words of the context after the loss. -/
theorem lossRecord_open {p : Progress} (hc : s.context.cycleState ≠ .noCycle)
    (hn : ∀ q, s.exchange.newest? = some q → s.context.progress = some q) (hp : s.context.progress = some p) :
    (lossRecord s).journal = queuedJournal (recordOf .loss
      (if s.context.cycleState = .stopped then .stop (s.context.stopReason.getD 0) else .zero)
      (lossContext s).context p s.gauge) s := by
  have figures : s.exchange.newest?.or s.context.progress = some p := by
    cases h : s.exchange.newest? with
    | none => exact hp
    | some q => exact (hn q h).symm.trans hp
  unfold lossRecord
  dsimp only
  rw [if_neg hc, queueRecord_eq, snapshot_eq .loss _ _ (by simpa using figures), lossReason_eq]
  dsimp only
  rw [queuedJournal_congr (s := s) _ (by simp) (by simp)]
  simp only [lossContext_context, lossContext_frame, CycleState.afterLoss_eq_stopped]

/-! ## The line (R42, R105, R107) -/

theorem enterHolding_line (s : State) : (enterHolding s).line =
    if s.supply.vhold = .low then { s.line with queue := [], attempt := none, failures := 0 } else s.line := by
  unfold enterHolding
  dsimp only
  split <;> rfl

theorem enterHolding_supply (s : State) : (enterHolding s).supply = { s.supply with
    supplyState := if s.supply.vhold = .low then .dormant else .holding, settle := 0, settleOpen := false } := by
  unfold enterHolding
  dsimp only
  split <;> rfl

/-- A receiver that begins to watch, or whose station's attempt is cut off, starts anew. -/
theorem vacateLine_receiver (n : Nat) (s : State) : (vacateLine n s).line.receiver =
    if s.line.mode = .off ∨ s.line.attempt ≠ none then Receiver.initial else s.line.receiver := by
  simp only [vacateLine, Line.receiverAfterCut]
  by_cases off : s.line.mode = .off <;> by_cases cut : s.line.attempt = none <;> simp [off, cut]

/-! ## The part after the loss -/

theorem lossRecorded_line (s : State) : s.lossRecorded.line = s.line := by
  simp [State.lossRecorded, State.lossGauge]

theorem lossRecorded_admission (s : State) : s.lossRecorded.admission = s.admission.afterLoss := by
  simp only [State.lossRecorded, lossRecord_frame, lossAdmission_eq]
  rfl

theorem lossRecorded_port (s : State) : s.lossRecorded.port = s.lossPort := by
  simp only [State.lossRecorded, lossRecord_frame, lossAdmission_eq]
  rfl

theorem lossRecorded_context (s : State) : s.lossRecorded.context = (lossContext s).context := by
  unfold State.lossRecorded lossRecord
  dsimp only
  split <;> simp [lossContext, discardPlan, State.lossGauge]

theorem lossTold_port (s : State) : s.lossTold.port =
    postedPort (.mainsLost s.context.cycleState.afterLoss)
      { s with port := s.lossPort, admission := s.admission.afterLoss } := by
  have admission := lossRecorded_admission s
  have cycle : (vacateLine (heldLen s) s.lossRecorded).context.cycleState = s.context.cycleState.afterLoss := by
    simp [lossRecorded_context, lossContext_context]
  unfold State.lossTold
  dsimp only
  rw [cycle, post_eq]
  exact postedPort_congr (s := { s with port := s.lossPort, admission := s.admission.afterLoss }) _
    (by simp [lossRecorded_port]) (by simp [admission]) (by simp [admission])

theorem lossHeld_port (s : State) : s.lossHeld.port = s.lossTold.port := by
  simp [State.lossHeld]

theorem postedPort_inService (e : Event) (s : State) : (postedPort e s).inService = s.port.inService := by
  unfold postedPort
  split <;> rfl

theorem lossTold_inService (s : State) : s.lossTold.port.inService = s.port.inService := by
  rw [lossTold_port, postedPort_inService]
  unfold State.lossPort
  split
  · rw [postedPort_inService]
    rfl
  · rfl

theorem declareLoss_line (s : State) : (declareLoss s).line = { s.line with
    mode := .off
    queue := if s.supply.vhold = .low then []
      else [⟨.released, 0, sumFeeder (cfg s) 1 (heldLen s), sumDuct (cfg s) 1 (heldLen s), true⟩]
    attempt := none, failures := 0, presenceRunning := false, presenceTicks := 0
    joinRunning := false, joinTicks := 0, joinSlotDone := false
    receiver := if s.line.mode = .off ∨ s.line.attempt ≠ none then Receiver.initial else s.line.receiver } := by
  have vhold : s.lossRecorded.supply.vhold = s.supply.vhold := by simp [State.lossRecorded, State.lossGauge]
  have settings : s.lossRecorded.settings = s.settings := by simp [State.lossRecorded, State.lossGauge]
  have receiver := vacateLine_receiver (heldLen s) s.lossRecorded
  rw [lossRecorded_line] at receiver
  simp only [declareLoss_eq, completeService_frame, State.lossHeld, enterHolding_line, State.lossTold, post_frame,
    vacateLine_frame, vhold]
  rw [← receiver, ← lossRecorded_line s, ← cfg_congr settings]
  split <;> rfl

/-- Settles O39. -/
theorem lossDeclared : Obligations.LossDeclared := by
  intro s hp absent hx hm stilled after cleared cancelled lost told
  have still : stilled = s.gauge.abandon := (Gauge.abandon_eq s.gauge).symm
  have cycle : after = s.context.cycleState.afterLoss := by
    cases hc : s.context.cycleState <;> simp [after, hc, CycleState.afterLoss]
  have gauge : (declareLoss s).gauge = s.gauge.release := by
    simp [declareLoss_eq, State.lossHeld, State.lossTold, State.lossRecorded, State.lossGauge]
  have posted : s.lossTold.port = told := by
    rw [lossTold_port, ← cycle]
    rfl
  have journal : (declareLoss s).journal = (lossRecord (lossAdmission s.lossGauge)).journal := by
    simp [declareLoss_eq, State.lossHeld, State.lossTold, State.lossRecorded]
  refine ⟨_, exec_dropout hp absent hm, ?_, ?_, ?_, ?_, ?_, ?_, ?_, ?_, declareLoss_line s, ?_, ?_, ?_, ?_, ?_⟩
  · simp only [declareLoss_eq, completeService_frame, State.lossHeld, enterHolding_frame, State.lossTold, post_frame,
      vacateLine_frame, State.lossRecorded, lossRecord_frame, lossAdmission_frame]
    rfl
  · rw [still]
    exact gauge.trans (Gauge.release_eq s.gauge)
  · simp only [declareLoss_eq, completeService_frame, State.lossHeld, enterHolding_frame, State.lossTold, post_frame,
      vacateLine_frame, lossRecorded_admission]
    rfl
  · rw [declareLoss_context, lossContext_context, cycle]
  · rw [declareLoss_assessor]
    rfl
  · rw [declareLoss_exchange]
    cases hn : s.exchange.newest? with
    | none => simp [Exchange.take_of_none hn]
    | some p => simp [Exchange.take_of_some hn]
  · intro hc
    rw [journal, lossRecord_noCycle (by simpa [State.lossGauge] using hc)]
    simp [State.lossGauge]
  · intro p hc hg
    rw [journal, lossRecord_open (p := p), gauge, declareLoss_context,
      queuedJournal_congr (s := s) _ (by simp [State.lossGauge]) (by simp [State.lossGauge])]
    case hc => simpa [State.lossGauge] using hc
    case hn => simpa [State.lossGauge] using hx.newest_progress
    case hp => simpa [State.lossGauge] using hg
    simp [lossContext_context, State.lossGauge]
  · simp [declareLoss_eq, State.lossHeld, State.lossTold]
  · simp [declareLoss_eq, State.lossHeld, enterHolding_supply, State.lossTold, State.lossRecorded, State.lossGauge]
  · intro free
    rw [declareLoss_eq, completeService_none, lossHeld_port, posted]
    case h => rw [lossHeld_port, lossTold_inService, free]
  · intro r held
    rw [declareLoss_eq, completeService_some (r := r), lossHeld_port, posted]
    case h => rw [lossHeld_port, lossTold_inService, held]
  · exact fun b hb => by cases b <;> simp_all [Block.Same]

end Sys2Proof.Machine
end

section
/-! The drum grant in RESUMING (R84 to R87, R126, R137): the row at the grant, the grant's own steps, and the
finalisation. -/

namespace Sys2Proof.Machine

variable {s : State}

/-! ## The row and the still time at the grant (R84, R85) -/

/-- The table's row at a finalisation; a GUARD run out takes the figure 0. -/
def lastRow (c : Settings) (p : Progress) (still : Nat) : PlanRow :=
  (tableRow c p still).getD { action := .resumeGuard, base := 6, guardFig := some 0 }

theorem finalRow_eq (c : Settings) (p : Progress) (still : Nat) :
    finalRow c p still = ((lastRow c p still).action, (lastRow c p still).figures) := by
  unfold finalRow lastRow tableRow
  cases p.phase
  case heat => rfl
  case cool =>
    dsimp only [coolRow]
    by_cases crease : still ≤ c.creaseTime <;> by_cases past : still < p.remaining <;>
      simp [crease, past, PlanRow.figures]
  case guarding =>
    dsimp only [guardRow]
    by_cases past : p.remaining ≤ still <;> by_cases crease : still ≤ c.creaseTime <;>
      simp [crease, past, PlanRow.figures]

theorem lastRow_base (c : Settings) (p : Progress) (still : Nat) :
    (lastRow c p still).base = (lastRow c p still).action.base := by
  unfold lastRow tableRow
  cases p.phase
  case heat => rfl
  all_goals
    dsimp only
    (repeat' split) <;> rfl

/-- In RESUMING on the mains a second complete at this tick counts into S (log entry 26). -/
theorem accruedStill_of_resuming (hc : s.context.cycleState = .resuming) (hm : s.supply.supplyState = .onMains) :
    accruedStill s = if s.context.stillStarted = true ∧ 100 ≤ s.context.stillTicks
      then min 65535 (s.context.still + 1) else s.context.still := by
  have runs : stillRuns s = s.context.stillStarted := by simp [stillRuns, hc, hm]
  refine if_congr ?_ rfl rfl
  rw [runs, Bool.and_eq_true, decide_eq_true_eq]
  exact Iff.rfl

/-! ## The finalisation (R86) -/

/-- The context in RUNNING with the final figures (R86 steps 3, 4 and 7). -/
def Context.finalised (c : Context) (figures : Progress) (base : Nat) : Context :=
  { c with
    cycleState := .running, progress := some figures, base := base, still := 0,
    doorSeen := false, plan := none, stillTicks := 0, freshRunning := true, freshTicks := 0 }

theorem finalProgress_cycleId (p : Progress) (a : RunAction) (f : Figures) :
    (finalProgress p a f).cycleId = p.cycleId := by
  cases a <;> rfl

theorem finalise_eq {p : Progress} {plan : Plan} (hn : s.exchange.newest? = none) (hp : s.context.progress = some p)
    (hplan : s.context.plan = some plan) :
    let row := lastRow (cfg s) p (accruedStill s)
    let figures := finalProgress p row.action row.figures
    let context := s.context.finalised figures row.base
    finalise s = { s with
      context := context
      assessor := { s.assessor with stage := .finalStage, awaiting := false, estimateMark := false }
      journal := queuedJournal
        { recordOf .resumed (.finalAction row.action) context figures s.gauge with estimated := plan.estimated } s
      port := postedPort (.planFinal
        { plan := { plan with
            action := .run row.action, still := some (accruedStill s)
            reheat := some (reheat (cfg s) (accruedStill s)), figures := row.figures
            aged := s.context.aged, base := some row.base, stage := .finalStage }
          stale := s.context.stale, aged := s.context.aged, doorSeen := false
          cycleId := p.cycleId, stopReason := none }) s } := by
  intro row figures context
  have base : row.base = row.action.base := lastRow_base _ _ _
  unfold finalise
  rw [hplan, hp]
  dsimp only
  rw [writeRecord_of_no_newest (p := figures)]
  case hn => exact hn
  case hp => simp [enterRunning, finalRow_eq, figures, row]
  simp only [postPlanFinal, post_eq]
  rw [postedPort_congr (s := s)]
  case hport | hp | hw => rfl
  simp [finalRow_eq, finalPlan, reportOf, enterRunning, finalProgress_cycleId, recordOf, context, figures, base, row,
    Context.finalised, queuedJournal]

/-! ## The grant (R126, R137) -/

theorem ductTest_eq (s : State) : ductTest s = { s with
    admission := { s.admission with ductEpisode := decide ((cfg s).ductLimit < ownDuct s + peersDuct s) }
    port := if (cfg s).ductLimit < ownDuct s + peersDuct s ∧ s.admission.ductEpisode = false
      then postedPort (.overcommit (ownDuct s + peersDuct s) (cfg s).ductLimit) s else s.port } := by
  unfold ductTest
  dsimp only
  by_cases past : (cfg s).ductLimit < ownDuct s + peersDuct s
  · cases episode : s.admission.ductEpisode
    · simp only [past, if_true, Bool.false_eq_true, if_false, post_eq, decide_true, and_self]
      rw [postedPort_congr (s := s)]
      all_goals rfl
    · have same : s = { s with admission := { s.admission with ductEpisode := true } } := by rw [← episode]
      simpa [past, episode] using same
  · simp [past]

/-- The part after a grant, before the duct overcommit test (R126 steps 1 to 6). -/
def State.granted (q : StepRequest) (s : State) : State :=
  let joined := { s with admission := { s.admission with held := s.admission.held ++ [⟨q.tag, false⟩] } }
  let told := restartGrantTimer q.step (offer (stepFrame (cfg s) .taken q.step) (permitsAtGrant q.step joined))
  completeStep .granted q { told with admission := { told.admission with
    pending := told.admission.pending.filter (fun x => x.step != q.step), claim := .unannounced } }

theorem grantStep_eq (q : StepRequest) (s : State) : grantStep q s = ductTest (s.granted q) := rfl

section
variable {q : StepRequest} {rest : List StepRequest}

theorem granted_drum_admission (hq : q.step = 1) (hh : s.admission.held = [])
    (left : s.admission.pending.filter (fun x => x.step != 1) = rest) :
    (s.granted q).admission = { s.admission with
      held := [⟨q.tag, false⟩], pending := rest, claim := .unannounced, spacing := some 0 } := by
  simp [State.granted, hq, hh, left, restartGrantTimer, permitsAtGrant]

theorem granted_drum_permits (hq : q.step = 1) (hh : s.admission.held = []) :
    (s.granted q).permits = { s.permits with drum := true, air := false } := by
  simp [State.granted, hq, hh, restartGrantTimer, permitsAtGrant, followSteps, heldLen]

theorem granted_drum_port (hq : q.step = 1) : (s.granted q).port = { s.port with
    events := s.port.events ++ [.completion q.tag 0x03 .granted 1 0] } := by
  simp [State.granted, hq, restartGrantTimer, permitsAtGrant, completeStep, addEvent]
  exact ⟨rfl, rfl⟩

theorem granted_frame (q : StepRequest) (s : State) :
    (s.granted q).settings = s.settings ∧ (s.granted q).view = s.view := by
  simp [State.granted]

theorem granted_frameOffered (q : StepRequest) (s : State) :
    FrameOffered (stepFrame (cfg s) .taken q.step) s.line (s.granted q).line := by
  have offered := offer_frameOffered (permitsAtGrant q.step
    { s with admission := { s.admission with held := s.admission.held ++ [⟨q.tag, false⟩] } })
    (stepFrame (cfg s) .taken q.step) nofun
  simp only [permitsAtGrant_frame] at offered
  simpa [State.granted] using offered

end

theorem holdEnd_passed {q : StepRequest} {n u k : Nat} (hc : s.admission.claim = .holding n u k) (past : 30 ≤ k)
    (hq : s.admission.pending.find? (fun p => p.step == n) = some q) (passes : TestPasses s n (arbOf s u)) :
    holdEnd s = grant q s := by
  have late : ¬ k < Config.holdTicks := Nat.not_lt.mpr past
  simp only [holdEnd, hc, late, if_false, hq, (admissionPasses_iff s n (arbOf s u)).mpr passes, if_true]

/-- The drum grant in RESUMING finalises the plan after the grant's own steps (R126 step 7). -/
theorem grant_drum {q : StepRequest} (hq : q.step = 1) (hc : s.context.cycleState = .resuming) :
    grant q s = finalise (grantStep q s) :=
  if_pos ⟨hc, hq⟩

/-- The duct test after the drum grant, which takes no duct of its own (R137). -/
theorem grantStep_drum {q : StepRequest} {rest : List StepRequest} (hq : q.step = 1) (hh : s.admission.held = [])
    (left : s.admission.pending.filter (fun x => x.step != 1) = rest) :
    let c := cfg s
    let total := peersDuct s
    let granted : State := { s with
      admission := { s.admission with pending := rest }
      port := { s.port with events := s.port.events ++ [.completion q.tag 0x03 .granted 1 0] } }
    (grantStep q s).admission = { s.admission with
        held := [⟨q.tag, false⟩], pending := rest, claim := .unannounced, spacing := some 0
        ductEpisode := decide (c.ductLimit < total) }
    ∧ (grantStep q s).permits = { s.permits with drum := true, air := false }
    ∧ (grantStep q s).port = if c.ductLimit < total ∧ s.admission.ductEpisode = false
        then postedPort (.overcommit total c.ductLimit) granted else granted.port := by
  intro c total granted
  have admission := granted_drum_admission hq hh left
  have port : (s.granted q).port = granted.port := granted_drum_port hq
  obtain ⟨settings, view⟩ := granted_frame q s
  have none_own : ownDuct (s.granted q) + peersDuct (s.granted q) = total := by
    have own : ownDuct (s.granted q) = 0 := by
      rw [ownDuct, heldLen, admission]
      rfl
    rw [own, Nat.zero_add, peersDuct, view]
    rfl
  rw [grantStep_eq, ductTest_eq, none_own, cfg_congr settings]
  refine ⟨by rw [admission], granted_drum_permits hq hh, ?_⟩
  rw [admission, port, postedPort_congr (s := granted)]
  case hport => exact port
  case hp | hw => rw [admission]

/-- Settles O57. -/
theorem drumGrantFinalises : Obligations.DrumGrantFinalises := by
  intro s u k q rest p plan hp hl hline hcl hx hclaim past hpend passes hc hg hplan c still row final heat cool
    guarding relief figures total granted tested
  have drum : q.step = 1 := by
    obtain ⟨head, -, -⟩ := hcl.claimed 1 (by simp [announcedStep, hclaim])
    simpa [hpend] using head
  have none_held : s.admission.held = [] := by
    by_contra held
    simpa [hc] using hcl.heldCycle held
  have left : s.admission.pending.filter (fun x => x.step != 1) = rest := by
    have rising := hl.1.pendingRising
    rw [hpend, List.pairwise_cons] at rising
    rw [hpend, List.filter_cons_of_neg (by simp [drum]), List.filter_eq_self]
    intro x hx
    have later := rising.1 x hx
    simp only [bne_iff_ne]
    omega
  have onMains : s.supply.supplyState = .onMains := (hline.onMains passes.1).1
  have ended : exec .holdExpiry s = .next (finalise (grantStep q s)) :=
    (whenRunning_running _ hp).trans (congrArg _ ((holdEnd_passed hclaim past (by simp [hpend, drum]) passes).trans
      (grant_drum drum hc)))
  obtain ⟨admission, permits, port⟩ := grantStep_drum drum none_held left
  have accrued : accruedStill (grantStep q s) = still :=
    (accruedStill_of_resuming (by simpa using hc) (by simpa using onMains)).trans (by simp [still])
  have last : row = lastRow c p still := by
    simp only [row, lastRow]
    cases tableRow c p still <;> rfl
  have progress : figures = finalProgress p row.action row.figures := by
    cases ha : row.action <;> simp only [figures, ha] <;> rfl
  rw [finalise_eq (p := p) (plan := plan)] at ended
  case hn => simpa using hx.no_newest (by simp [hc])
  case hp => simpa using hg
  case hplan => simpa using hplan
  rw [accrued, cfg_congr (s := s) (by simp), ← last, ← progress] at ended
  refine ⟨_, ended, ?_, ?_, ?_, ?_, admission, permits, ?_, ?_, ?_, ?_⟩
  · simp [Context.finalised]
  · simp
  · simp
  · dsimp only
    rw [queuedJournal_congr (s := s) _ (by simp) (by simp)]
    simp
  · have offered := granted_frameOffered q s
    have line : (grantStep q s).line = (s.granted q).line := by simp only [grantStep_eq, ductTest_frame]
    rw [drum, ← line] at offered
    exact offered
  · exact onlyFrames_of (by simp)
  · refine (postedPort_congr (s := { granted with port := tested }) _ port (by rw [admission])
      (by rw [admission])).trans ?_
    simp [final, reheat, c]
  · exact fun b hb => by cases b <;> simp_all [Block.Same]

end Sys2Proof.Machine
end

section
/-! Commands outside a running part (R32, R52, R152). -/

namespace Sys2Proof.Machine

/-! ## Commands outside a running part -/

theorem exec_of_needsRunning {c : Instr} (h : needsRunning c = true) : ∃ f, ∀ s, exec c s = whenRunning f s := by
  cases c
  case sendRequest | takeEvent | writeProgress | readStatus | writeComplete | coldStart | coreSupplyFail | resetN
    | pinStart | recoveryScan | mainsZcPulse | vholdReading => exact absurd h nofun
  all_goals exact ⟨_, fun _ => rfl⟩

/-- The state with what SDO carries in a void transaction of one command byte and `n` further bytes (R152). -/
def State.voided (n : Nat) (s : State) : State :=
  { s with port := { s.port with sdo := byte8 (eventsWaiting s) :: List.replicate n 0 } }

theorem transaction_voided {s : State} (k : TransactionKind) (command : Byte) (rest : List Byte)
    (body : List Byte → State → State × List Byte)
    (h : (s.power = .running ∧ command ≠ k.code) ∨ s.power = .scanning) :
    transaction k (command :: rest) body s = s.voided rest.length := by
  rw [transaction_void k _ body (by simpa using h), shiftOut, List.length_cons, padTo_single]
  rfl

theorem transaction_ignored {s : State} (k : TransactionKind) (mosi : List Byte)
    (body : List Byte → State → State × List Byte) (h : s.power = .resetHeld) :
    transaction k mosi body s = { s with port := { s.port with sdo := [] } } := by
  simp only [transaction, h]

/-- The commands of the four transactions, each with its body. -/
theorem exec_transaction {c : Instr} {m : List Byte}
    (h : c ∈ [Instr.sendRequest m, .writeProgress m, .takeEvent m, .readStatus m]) :
    ∃ k body, ∀ s, exec c s = .next (transaction k m body s) := by
  simp only [List.mem_cons, List.not_mem_nil, or_false] at h
  obtain rfl | rfl | rfl | rfl := h <;> exact ⟨_, _, fun _ => rfl⟩

/-- Settles O4: outside a running part every such command is a `whenRunning`, and the four transactions are one
transaction each. -/
theorem nothingRunsBeforeTheScanEnds : Obligations.NothingRunsBeforeTheScanEnds := by
  refine ⟨fun c s hc hp => ?_,
    fun command rest s => ⟨fun hp c hc => ?_, fun hp => ⟨?_, ?_, ?_, ?_⟩, fun hp c hc => ?_⟩⟩
  · obtain ⟨f, he⟩ := exec_of_needsRunning hc
    rw [he, whenRunning_other f hp]
  · obtain ⟨k, body, he⟩ := exec_transaction hc
    rw [he, transaction_voided k _ _ body (.inr hp)]
    rfl
  · exact fun hk => congrArg _ (transaction_voided .sendRequest _ _ _ (.inl ⟨hp, hk⟩))
  · exact fun hk => congrArg _ (transaction_voided .takeEvent _ _ _ (.inl ⟨hp, hk⟩))
  · exact fun hk => congrArg _ (transaction_voided .writeProgress _ _ _ (.inl ⟨hp, hk⟩))
  · exact fun hk => congrArg _ (transaction_voided .readStatus _ _ _ (.inl ⟨hp, hk⟩))
  · obtain ⟨k, body, he⟩ := exec_transaction hc
    rw [he, transaction_ignored k _ body hp]

end Sys2Proof.Machine
end

section
/-! The starts and ends of operation, and the end of a write (R27, R30, R31, R51 to R53). -/

namespace Sys2Proof.Machine

variable {s : State}

/-! ## The store at a loss of core supply (R30) -/

theorem tornSlots_of_inFlight {j : Journal} {f : InFlight} (h : j.inFlight = some f) :
    tornSlots j = j.slots.set f.slot .failing := by
  simp only [tornSlots, h]

theorem tornSlots_of_rest {j : Journal} (h : j.inFlight = none) : tornSlots j = j.slots := by
  simp only [tornSlots, h]

/-! ## The commands of the starts and ends of operation -/

theorem exec_pinStart (hp : s.power = .resetHeld) (hw : s.journal.inFlight = none) :
    exec .pinStart s = .next (startPart .pin s.journal.slots s) :=
  congrArg _ (if_pos ⟨hp, hw⟩)

theorem exec_pinStart_early (h : s.power ≠ .resetHeld ∨ s.journal.inFlight ≠ none) : exec .pinStart s = .next s :=
  congrArg _ (if_neg fun ⟨hp, hw⟩ => h.elim (· hp) (· hw))

theorem exec_coreSupplyFail (hp : s.power ≠ .unpowered) : exec .coreSupplyFail s = .next (failSupply s) :=
  congrArg _ (if_neg hp)

theorem exec_coreSupplyFail_unpowered (hp : s.power = .unpowered) : exec .coreSupplyFail s = .next s :=
  congrArg _ (if_pos hp)

theorem exec_resetN {n : Nat} (long : 10 ≤ n) (hp : s.power ≠ .unpowered) :
    exec (.resetN n) s = .next (holdReset s) :=
  congrArg _ (if_pos ⟨long, hp⟩)

theorem exec_resetN_short {n : Nat} (short : n < 10) : exec (.resetN n) s = .next s :=
  congrArg _ (if_neg fun h => absurd h.1 (Nat.not_le.mpr short))

/-- Settles O35, command by command. -/
theorem startsAndResets : Obligations.StartsAndResets := by
  refine ⟨fun s => ?starts, fun s => ⟨exec_coreSupplyFail_unpowered, fun hp => ⟨_, exec_coreSupplyFail hp, ?fails⟩,
    fun n long hp => ?resets, fun n => exec_resetN_short⟩⟩
  case starts =>
    intro fresh
    have started : ∀ cause slots, fresh cause (startPart cause slots s) := fun cause slots => by
      simp [fresh, startPart, State.started, Journal.initial]
    exact ⟨⟨_, rfl, started .cold _, fun f => tornSlots_of_inFlight, tornSlots_of_rest⟩,
      fun hp hw => ⟨_, exec_pinStart hp hw, started .pin _, rfl⟩, exec_pinStart_early⟩
  case fails =>
    exact ⟨rfl, rfl, rfl, rfl, fun f => tornSlots_of_inFlight, tornSlots_of_rest, rfl, rfl, rfl, rfl, rfl, rfl,
      rfl, rfl⟩
  case resets => rw [exec_resetN long hp, holdReset, Gauge.abandon_eq]

/-! ## A write's end -/

theorem exec_writeComplete {f : InFlight} (hw : s.journal.inFlight = some f) (hp : s.power ≠ .unpowered) :
    exec .writeComplete s = .next (completeWrite f s) := by
  simp only [exec, execWriteComplete, hw, if_neg hp]

/-- The part with a write ended and the writer at rest. -/
def State.written (f : InFlight) (s : State) : State :=
  { s with journal := { s.journal with slots := s.journal.slots.set f.slot (.whole f.record), inFlight := none } }

/-- A write's end starts the waiting record in a running part outside DORMANT, and else leaves it (R27, R28,
R31). -/
theorem completeWrite_cases (f : InFlight) (s : State) :
    (∃ b, s.journal.waiting = some b ∧ s.power = .running ∧ s.supply.supplyState ≠ .dormant
      ∧ completeWrite f s = startWrite b
          { s.written f with journal := { (s.written f).journal with waiting := none } })
    ∨ ((s.journal.waiting = none ∨ s.power ≠ .running ∨ s.supply.supplyState = .dormant)
      ∧ completeWrite f s = s.written f) := by
  by_cases h : s.power = .running ∧ s.supply.supplyState ≠ .dormant
  · have started : completeWrite f s = startWaiting (s.written f) := if_pos h
    cases hw : s.journal.waiting with
    | none => exact .inr ⟨.inl rfl, started.trans (by simp only [startWaiting, State.written, hw])⟩
    | some b => exact .inl ⟨b, rfl, h.1, h.2, started.trans (by simp only [startWaiting, State.written, hw])⟩
  · have rest : completeWrite f s = s.written f := if_neg h
    exact .inr ⟨.inr (by tauto), rest⟩

theorem completeWrite_slots (f : InFlight) (s : State) :
    (completeWrite f s).journal.slots = s.journal.slots.set f.slot (.whole f.record) := by
  obtain ⟨b, -, -, -, he⟩ | ⟨-, he⟩ := completeWrite_cases f s <;> rw [he] <;> rfl

/-- Settles O31, by whether a waiting record starts. -/
theorem writeCompletes : Obligations.WriteCompletes := by
  intro s f hw hp
  refine ⟨_, exec_writeComplete hw hp, completeWrite_slots f s, ?_, ?_, by simp, fun b hb => ?_⟩
  · intro b waits running awake
    obtain ⟨b', hb', -, -, he⟩ | ⟨rests, -⟩ := completeWrite_cases f s
    · obtain rfl : b = b' := Option.some.inj (waits.symm.trans hb')
      rw [he]
      exact ⟨rfl, rfl, rfl, rfl⟩
    · simp [waits, running, awake] at rests
  · intro rests
    obtain ⟨b', hb', running, awake, -⟩ | ⟨-, he⟩ := completeWrite_cases f s
    · simp [hb', running, awake] at rests
    · rw [he]
      exact ⟨rfl, rfl, rfl, rfl⟩
  · cases b <;> simp_all [Block.Same]

end Sys2Proof.Machine
end

section
/-! The newest record of a ring of records (R26, R33). -/

namespace Sys2Proof.Machine

variable {next : Fin 32} {seq : BitVec 32} {slots : Vector Slot 32}

/-! ## Places in the ring and sequence numbers (R26, R33) -/

theorem ringDistance_pos (next i : Fin 32) : 1 ≤ ringDistance next i := Nat.le_add_left 1 _

theorem ringDistance_le (next i : Fin 32) : ringDistance next i ≤ 32 := by
  unfold ringDistance
  omega

theorem ringDistance_injective {i j : Fin 32} (h : ringDistance next i = ringDistance next j) : i = j := by
  unfold ringDistance at h
  omega

/-- Every other slot is one further behind the next place. -/
theorem ringDistance_succ {i : Fin 32} (h : i ≠ next) : ringDistance (next + 1) i = ringDistance next i + 1 := by
  unfold ringDistance
  rw [Fin.val_add_eq_ite]
  split <;> omega

/-- The distances behind the place after a slot, of the slots no nearer than it. -/
theorem ringDistance_after {i j : Fin 32} (h : ringDistance next i ≤ ringDistance next j) :
    ringDistance (i + 1) j + ringDistance next i = ringDistance next j + 1 := by
  unfold ringDistance at *
  rw [Fin.val_add_eq_ite]
  split <;> omega

theorem laterSeq_iff (a b : BitVec 32) : laterSeq b a = true ↔ 1 ≤ (b - a).toNat ∧ (b - a).toNat ≤ 2147483648 := by
  simp [laterSeq]

/-- Of two numbers within 32 of a place, the nearer is the later. -/
theorem laterSeq_behind (seq : BitVec 32) {m n : Nat} (hm : m ≤ 32) (hn : n ≤ 32) :
    laterSeq (seq - BitVec.ofNat 32 m) (seq - BitVec.ofNat 32 n) = true ↔ m < n := by
  rw [laterSeq_iff]
  bv_omega

/-! ## The valid records (R21, R33) -/

/-- The slot holds a valid record. -/
def HoldsAt (slots : Vector Slot 32) (i : Fin 32) (r : Record) : Prop := (slots.get i).valid? = some r

theorem HoldsAt.unique {i : Fin 32} {r q : Record} (h : HoldsAt slots i r) (h' : HoldsAt slots i q) : r = q :=
  Option.some.inj (h.symm.trans h')

/-- No valid record is later than this one. -/
def Unsurpassed (slots : Vector Slot 32) (r : Record) : Prop :=
  ∀ j q, HoldsAt slots j q → laterSeq q.seq r.seq = false

theorem mem_validRecords {i : Nat} {r : Record} :
    (i, r) ∈ validRecords slots ↔ ∃ h : i < 32, HoldsAt slots ⟨i, h⟩ r := by
  simp only [validRecords, List.mem_filterMap, Prod.exists, List.mem_zipIdx_iff_getElem?, Option.map_eq_some_iff,
    Prod.mk.injEq, HoldsAt, Vector.get]
  constructor
  · rintro ⟨slot, k, hk, q, hq, rfl, rfl⟩
    obtain ⟨h, rfl⟩ := List.getElem?_eq_some_iff.mp hk
    exact ⟨by simpa using h, by simpa using hq⟩
  · rintro ⟨h, hr⟩
    exact ⟨_, i, List.getElem?_eq_getElem (by simpa using h), r, by simpa using hr, rfl, rfl⟩

theorem unsurpassed_iff {r : Record} :
    Unsurpassed slots r ↔ ((validRecords slots).all fun x => !laterSeq x.2.seq r.seq) = true := by
  simp only [List.all_eq_true, Prod.forall, mem_validRecords, Bool.not_eq_true']
  exact ⟨fun h i q ⟨_, hq⟩ => h _ q hq, fun h j q hq => h j.val q ⟨j.isLt, hq⟩⟩

theorem newestRecord_eq (slots : Vector Slot 32) :
    newestRecord slots = (validRecords slots).find? fun x =>
      (validRecords slots).all fun y => !laterSeq y.2.seq x.2.seq := rfl

/-- Whatever the store holds, a newest record is a valid one that none is later than. -/
theorem newestRecord_spec {i : Nat} {r : Record} (h : newestRecord slots = some (i, r)) :
    ∃ hi : i < 32, HoldsAt slots ⟨i, hi⟩ r ∧ Unsurpassed slots r := by
  rw [newestRecord_eq] at h
  obtain ⟨hi, hr⟩ := mem_validRecords.mp (List.mem_of_find?_eq_some h)
  have last := List.find?_some h
  exact ⟨hi, hr, unsurpassed_iff.mpr last⟩

theorem newestRecord_ne_none {i : Fin 32} {r : Record} (hr : HoldsAt slots i r) (hu : Unsurpassed slots r) :
    newestRecord slots ≠ none := by
  intro none
  exact List.find?_eq_none.mp none (i.val, r) (mem_validRecords.mpr ⟨i.isLt, hr⟩) (unsurpassed_iff.mp hu)

/-! ## The newest record of a ring (R33) -/

theorem RingAt.seq_eq (ring : RingAt next seq none slots) {i : Fin 32} {r : Record} (h : HoldsAt slots i r) :
    r.seq = seq - BitVec.ofNat 32 (ringDistance next i) :=
  ring i r nofun h

/-- In a ring a record is later than another exactly when it lies nearer behind the writer's place. -/
theorem RingAt.later_iff (ring : RingAt next seq none slots) {i j : Fin 32} {r q : Record}
    (hr : HoldsAt slots i r) (hq : HoldsAt slots j q) :
    laterSeq q.seq r.seq = true ↔ ringDistance next j < ringDistance next i := by
  rw [ring.seq_eq hr, ring.seq_eq hq]
  exact laterSeq_behind seq (ringDistance_le next j) (ringDistance_le next i)

theorem RingAt.unsurpassed_iff (ring : RingAt next seq none slots) {i : Fin 32} {r : Record}
    (hr : HoldsAt slots i r) :
    Unsurpassed slots r ↔ ∀ j q, HoldsAt slots j q → ringDistance next i ≤ ringDistance next j := by
  refine forall₃_congr fun j q hq => ?_
  rw [← Bool.not_eq_true, ring.later_iff hr hq, Nat.not_lt]

theorem RingAt.unsurpassed_unique (ring : RingAt next seq none slots) {i j : Fin 32} {r q : Record}
    (hr : HoldsAt slots i r) (ur : Unsurpassed slots r) (hq : HoldsAt slots j q) (uq : Unsurpassed slots q) :
    i = j ∧ r = q := by
  have near := (ring.unsurpassed_iff hr).mp ur j q hq
  have near' := (ring.unsurpassed_iff hq).mp uq i r hr
  obtain rfl := ringDistance_injective (Nat.le_antisymm near near')
  exact ⟨rfl, hr.unique hq⟩

theorem RingAt.exists_unsurpassed (ring : RingAt next seq none slots) {i : Fin 32} {r : Record}
    (h : HoldsAt slots i r) : ∃ j q, HoldsAt slots j q ∧ Unsurpassed slots q := by
  obtain ⟨j, ⟨q, hq⟩, nearest⟩ :=
    Set.exists_min_image {j | ∃ q, HoldsAt slots j q} (ringDistance next) (Set.toFinite _) ⟨i, r, h⟩
  exact ⟨j, q, hq, (ring.unsurpassed_iff hq).mpr fun k p hp => nearest k ⟨p, hp⟩⟩

theorem RingAt.newestRecord_ne_none (ring : RingAt next seq none slots) {i : Fin 32} {r : Record}
    (h : HoldsAt slots i r) : newestRecord slots ≠ none := by
  obtain ⟨j, q, hq, uq⟩ := ring.exists_unsurpassed h
  exact Machine.newestRecord_ne_none hq uq

theorem RingAt.newestRecord_iff (ring : RingAt next seq none slots) {i : Nat} {r : Record} :
    newestRecord slots = some (i, r) ↔ ∃ h : i < 32, HoldsAt slots ⟨i, h⟩ r ∧ Unsurpassed slots r := by
  refine ⟨newestRecord_spec, fun ⟨hi, hr, ur⟩ => ?_⟩
  obtain ⟨⟨j, q⟩, found⟩ := Option.ne_none_iff_exists'.mp (Machine.newestRecord_ne_none hr ur)
  obtain ⟨hj, hq, uq⟩ := newestRecord_spec found
  obtain ⟨hij, rfl⟩ := ring.unsurpassed_unique hr ur hq uq
  obtain rfl : i = j := Fin.mk.inj hij
  exact found

/-- Settles O37: in a ring the later record is the nearer one, and the newest the nearest. -/
theorem newestRecordIsWellDefined : Obligations.NewestRecordIsWellDefined := by
  refine ⟨laterSeq_iff, fun next seq slots ring => ⟨fun i j r q hr hq distinct same => ?_, fun i r hr => ?_,
    fun i r => ring.newestRecord_iff, fun ⟨i, r, h⟩ => ring.newestRecord_ne_none h⟩, by decide⟩
  · have le_i := ringDistance_le next i
    have le_j := ringDistance_le next j
    rw [ring.seq_eq hr, ring.seq_eq hq] at same
    exact distinct (ringDistance_injective (next := next) (by bv_omega))
  · have pos := ringDistance_pos next i
    have le := ringDistance_le next i
    rw [ring.seq_eq hr]
    constructor <;> bv_omega

end Sys2Proof.Machine
end

section
/-! The journal's writer over every step: what each operation can do to it, said once for both of its
invariants. -/

namespace Sys2Proof.Machine

/-! ## The writer at rest -/

/-- The power and the journal but for its interval timer stand as they stood, and DORMANT is not left. -/
def WriterRests (s t : State) : Prop :=
  t.power = s.power
  ∧ (s.supply.supplyState = .dormant → t.supply.supplyState = .dormant)
  ∧ t.journal = { s.journal with
      intervalRunning := t.journal.intervalRunning, intervalTicks := t.journal.intervalTicks }

theorem WriterRests.refl (s : State) : WriterRests s s := ⟨rfl, id, rfl⟩

theorem WriterRests.trans {s t u : State} (h : WriterRests s t) (h' : WriterRests t u) : WriterRests s u := by
  obtain ⟨hp, hd, hj⟩ := h
  obtain ⟨hp', hd', hj'⟩ := h'
  exact ⟨hp'.trans hp, hd' ∘ hd, hj'.trans (by rw [hj])⟩

/-- The commands that can queue a record, end or lose a write, or move the supply or the power. -/
def movesWriter : Instr → Bool
  | .writeProgress _ | .configure | .openCycle | .hostStop | .continueCycle | .closeCycle | .resumeAnswer
  | .writeComplete | .journalInterval | .stillTimerSecond | .coldStart | .coreSupplyFail | .resetN _
  | .pinStart | .recoveryScan | .mainsZcPulse | .dropout | .vholdReading _ | .returnConfirmation | .warmReturn
  | .startupReadingEnd _ | .holdExpiry => true
  | _ => false

theorem whenRunning_writerRests {f : State → State} {s t : State} (hf : WriterRests s (f s))
    (h : whenRunning f s = .next t) : WriterRests s t :=
  whenRunning_keeps (WriterRests.refl s) (fun _ => hf) h

theorem transaction_keeps {P : State → Prop} {k : TransactionKind} {mosi : List Byte} {s t : State}
    {body : List Byte → State → State × List Byte} (hs : P s) (port : ∀ u p, P u → P { u with port := p })
    (hb : s.power = .running → P (body mosi.tail s).1)
    (h : (.next (transaction k mosi body s) : Host.Outcome State Fault Refusal) = .next t) : P t := by
  obtain rfl : transaction k mosi body s = t := by simpa using h
  unfold transaction
  split
  · split
    · exact port _ _ (hb ‹_›)
    · exact port _ _ hs
  all_goals exact port _ _ hs

theorem takeIntoService_writerRests (isKind : Byte → Bool) {owner : Request → State → State} (s : State)
    (own : ∀ r u, WriterRests u (owner r u)) : WriterRests s (takeIntoService isKind owner s) :=
  takeIntoService_keeps (P := WriterRests s) isKind (WriterRests.refl s) (fun _ _ hu => hu)
    (fun r u hu _ => hu.trans (own r u))

theorem exec_writerRests {c : Instr} {s t : State} (hq : movesWriter c = false) (h : exec c s = .next t) :
    WriterRests s t := by
  cases c
  case sendRequest mosi =>
    refine transaction_keeps (WriterRests.refl s) (fun _ _ hu => hu) (fun _ => ?_) h
    unfold sendRequestBody
    (repeat' split) <;> simp [WriterRests]
  case takeEvent mosi =>
    refine transaction_keeps (WriterRests.refl s) (fun _ _ hu => hu) (fun _ => ?_) h
    unfold takeEventBody
    (repeat' split) <;> simp [WriterRests]
  case readStatus mosi =>
    refine transaction_keeps (WriterRests.refl s) (fun _ _ hu => hu) (fun _ => ?_) h
    unfold readStatusBody
    (repeat' split) <;> simp [WriterRests]
  case writeProgress | configure | openCycle | hostStop | continueCycle | closeCycle | resumeAnswer
    | writeComplete | journalInterval | stillTimerSecond | coldStart | coreSupplyFail | resetN | pinStart
    | recoveryScan | mainsZcPulse | dropout | vholdReading | returnConfirmation | warmReturn
    | startupReadingEnd | holdExpiry =>
    exact absurd hq nofun
  case requestStep | dropStep | unknownKindServed =>
    exact whenRunning_writerRests (takeIntoService_writerRests _ s fun r u => by simp [WriterRests]) h
  all_goals
    simp only [exec, execFreshnessExpiry, execLossTimerSecond, execChargingConversionStart,
      execChargingConversionEnd, execRefreshStart, execRefreshEnd, execAttemptStart, execArbitrationLost,
      execBitError, execLineHeld, execFrameSent, execFrameReceived, execPresenceDue, execJoinSlot,
      execJoinWindowEnd, execPeerSilent, execPeerRemoved, execAdmissionTest, execSpacingElapsed,
      execRampElapsed, execShedSettleExpiry, execWaitingAgeSecond, execHeatPeriodStart, execOnTimeEnd,
      execDoorOpening, execDoorClosing] at h
    refine whenRunning_writerRests ?_ h
  all_goals (repeat' split) <;> simp [WriterRests]

/-- The part's own time moves the journal's interval timer alone. -/
theorem idle_writerRests (s : State) : WriterRests s (idle s) := by
  obtain h | ⟨c, h⟩ | ⟨-, -, h⟩ := idle_cases s
  · rw [h]
    exact WriterRests.refl s
  · rw [h]
    exact WriterRests.refl s
  · rw [h]
    simp [WriterRests, tick, tickJournal, tickSupply]

/-! ## Invariants of the writer -/

/-- A property of the writer that its own operations keep: a record queued, a write ended, RETURNING entered, and
the starts and ends of operation. -/
structure WriterInvariant (P : State → Prop) : Prop where
  rests : ∀ {s t}, P s → WriterRests s t → P t
  queues : ∀ {s} body, P s → s.power = .running → P (queueRecord body s)
  ends : ∀ {s f}, P s → s.journal.inFlight = some f → P (completeWrite f s)
  returns : ∀ {s}, P s → P (enterReturning s)
  starts : ∀ {s} cause, P s → P (startPart cause (tornSlots s.journal) s)
  fails : ∀ {s}, P s → P (failSupply s)
  resets : ∀ {s}, P s → P (holdReset s)
  scans : ∀ {s}, P s → s.power = .scanning → P (endScan s)

namespace WriterInvariant

variable {P : State → Prop} {s t u : State}

/-- One record written between two stretches in which the writer rests. -/
theorem records (inv : WriterInvariant P) (f : State → State) (k : RecordKind) (why : Reason) (h : P s)
    (hp : s.power = .running) (before : WriterRests s u) (after : ∀ v, WriterRests v (f v)) :
    P (f (writeRecord k why u)) := by
  have taken : P { u with exchange := u.exchange.take } := inv.rests h before
  exact inv.rests (inv.queues _ taken (before.1.trans hp)) (after _)

/-! ### The operations that queue a record -/

theorem commitProgress (inv : WriterInvariant P) (mosi : List Byte) (h : P s) (hp : s.power = .running) :
    P (commitProgress mosi s) := by
  unfold Machine.commitProgress
  split
  · split
    · unfold acceptCommit
      dsimp only
      split
      · exact inv.records id _ _ h hp ⟨rfl, id, rfl⟩ .refl
      · exact inv.rests h ⟨rfl, id, rfl⟩
    · exact inv.rests h ⟨rfl, id, rfl⟩
  · exact inv.rests h ⟨rfl, id, rfl⟩

theorem actOnPlan (inv : WriterInvariant P) (p : Plan) (h : P s) (hp : s.power = .running) :
    P (actOnPlan p s) := by
  unfold Machine.actOnPlan
  dsimp only
  split
  · exact inv.records enterNoCycle _ _ h hp (by simp [WriterRests]) (by simp [WriterRests])
  · exact inv.rests h (by simp [WriterRests])

theorem assess (inv : WriterInvariant P) (source : OffSource) (off : OffTime) (carried : Nat) (h : P s)
    (hp : s.power = .running) : P (assess source off carried s) := by
  unfold Machine.assess
  dsimp only
  split
  case h_1 => exact inv.rests h (by simp [WriterRests])
  case h_4 | h_5 => exact h
  all_goals
    split
    · exact inv.actOnPlan _ (inv.rests h ⟨rfl, id, rfl⟩) hp
    · exact inv.rests h ⟨rfl, id, rfl⟩

theorem guardTest (inv : WriterInvariant P) (h : P s) (hp : s.power = .running) : P (guardTest s) := by
  obtain ⟨-, he⟩ | ⟨-, he⟩ := guardTest_cases s
  · rwa [he]
  · rw [he]
    exact inv.records (fun v => enterNoCycle (postExpiry v)) _ _ h hp (by simp [WriterRests])
      (by simp [WriterRests])

theorem finalise (inv : WriterInvariant P) (h : P s) (hp : s.power = .running) : P (finalise s) := by
  unfold Machine.finalise
  split
  · dsimp only
    exact inv.rests (inv.records (postPlanFinal _) _ _ h hp (by simp [WriterRests]) (by simp [WriterRests]))
      ⟨rfl, id, rfl⟩
  · exact h

theorem grant (inv : WriterInvariant P) (p : StepRequest) (h : P s) (hp : s.power = .running) :
    P (grant p s) := by
  have granted : P (grantStep p s) := inv.rests h (by simp [WriterRests])
  unfold Machine.grant
  dsimp only
  split
  · exact inv.finalise granted (by simpa using hp)
  · exact granted

theorem lossRecord (inv : WriterInvariant P) (h : P s) (hp : s.power = .running) : P (lossRecord s) := by
  have context : P (lossContext { s with exchange := s.exchange.take }) := inv.rests h (by simp [WriterRests])
  unfold Machine.lossRecord
  dsimp only
  split
  · exact context
  · exact inv.queues _ context (by simpa using hp)

/-! ### The requests -/

theorem openCycleOwner (inv : WriterInvariant P) (r : Request) (h : P s) (hp : s.power = .running) :
    P (openCycleOwner r s) := by
  unfold Machine.openCycleOwner
  dsimp only
  (repeat' split)
  case h_2.isFalse =>
    exact inv.records (completeService .done 0) _ _ h hp (by simp [WriterRests]) (by simp [WriterRests])
  all_goals exact inv.rests h (by simp [WriterRests])

theorem hostStopOwner (inv : WriterInvariant P) (r : Request) (h : P s) (hp : s.power = .running) :
    P (hostStopOwner r s) := by
  unfold Machine.hostStopOwner
  split
  · exact inv.records (completeService .done 0) _ _ h hp (by simp [WriterRests]) (by simp [WriterRests])
  · exact inv.rests h (by simp [WriterRests])

theorem continueCycleOwner (inv : WriterInvariant P) (r : Request) (h : P s) (hp : s.power = .running) :
    P (continueCycleOwner r s) := by
  unfold Machine.continueCycleOwner
  split
  · exact inv.records (completeService .done 0) _ _ h hp (by simp [WriterRests]) (by simp [WriterRests])
  · exact inv.rests h (by simp [WriterRests])

theorem closeCycleOwner (inv : WriterInvariant P) (r : Request) (h : P s) (hp : s.power = .running) :
    P (closeCycleOwner r s) := by
  unfold Machine.closeCycleOwner
  split
  case h_4 | h_5 => exact inv.rests h (by simp [WriterRests])
  all_goals
    exact inv.records (fun v => completeService .done 0 (enterNoCycle v)) _ _ h hp (by simp [WriterRests])
      (by simp [WriterRests])

theorem resumeAnswerOwner (inv : WriterInvariant P) (r : Request) (h : P s) (hp : s.power = .running) :
    P (resumeAnswerOwner r s) := by
  have refused : ∀ x, P (completeService x 0 s) := fun x => inv.rests h (by simp [WriterRests])
  unfold Machine.resumeAnswerOwner
  split
  · split
    · exact refused _
    · split
      · exact refused _
      · exact inv.guardTest (inv.rests h (by simp [WriterRests])) (by simpa using hp)
  · split
    · split
      · exact refused _
      · exact inv.records (fun v => completeService .done 0 (enterNoCycle v)) _ _ h hp (.refl s)
          (by simp [WriterRests])
    · exact refused _

theorem decideConfigure (inv : WriterInvariant P) (r : Request) (h : P s) (hp : s.power = .running) :
    P (decideConfigure r s) := by
  unfold Machine.decideConfigure
  dsimp only
  (repeat' split)
  case isFalse.isFalse.isFalse =>
    have configured : P (s.configured r.settings) := inv.rests h (by simp [WriterRests, State.configured])
    have power : (s.configured r.settings).power = .running := by simpa [State.configured] using hp
    rw [acceptConfigure_eq]
    dsimp only
    have assessed := fun off carried => inv.assess .gauge off carried configured power
    split <;> exact inv.rests (assessed _ _) ⟨rfl, id, rfl⟩
  all_goals exact inv.rests h (by simp [WriterRests])

theorem configureOwner (inv : WriterInvariant P) (r : Request) (h : P s) (hp : s.power = .running) :
    P (configureOwner r s) := by
  unfold Machine.configureOwner
  split
  · exact h
  · exact inv.decideConfigure r h hp

/-! ### The timers and the start-up reading -/

theorem intervalExpiry (inv : WriterInvariant P) (h : P s) (hp : s.power = .running) : P (intervalExpiry s) := by
  unfold Machine.intervalExpiry
  dsimp only
  (repeat' split)
  · exact inv.records id _ _ h hp ⟨rfl, id, rfl⟩ .refl
  · exact inv.rests h ⟨rfl, id, rfl⟩
  · exact h

theorem stillSecond (inv : WriterInvariant P) (h : P s) (hp : s.power = .running) : P (stillSecond s) := by
  unfold Machine.stillSecond
  split
  · exact inv.guardTest (inv.rests h ⟨rfl, id, rfl⟩) hp
  · exact h

theorem endReading (inv : WriterInvariant P) (counter : BitVec 16) (h : P s) (hp : s.power = .running) :
    P (resumeConfigure (endReading counter s)) := by
  have read : P (Machine.endReading counter s) := inv.rests h (by simp [WriterRests])
  unfold resumeConfigure
  split
  · exact inv.decideConfigure _ read (by simpa using hp)
  · exact read

theorem holdEnd (inv : WriterInvariant P) (h : P s) (hp : s.power = .running) : P (holdEnd s) := by
  have withdrawn : P (withdrawClaim s) := inv.rests h (by simp [WriterRests])
  unfold Machine.holdEnd
  split
  · split
    · exact h
    · split
      · split
        · exact inv.grant _ h hp
        · exact withdrawn
      · exact withdrawn
  all_goals exact h

/-! ### The supply -/

/-- Outside DORMANT the supply state is free to move, and the writer rests. -/
theorem awake (hs : s.supply.supplyState ≠ .dormant) (hp : t.power = s.power) (hj : t.journal = s.journal) :
    WriterRests s t :=
  ⟨hp, fun hd => absurd hd hs, by rw [hj]⟩

theorem declareLoss (inv : WriterInvariant P) (h : P s) (hp : s.power = .running)
    (hs : s.supply.supplyState ≠ .dormant) : P (declareLoss s) := by
  have recorded : P s.lossRecorded :=
    inv.lossRecord (inv.rests h (by simp [WriterRests, State.lossGauge])) (by simpa [State.lossGauge] using hp)
  refine inv.rests recorded (awake ?_ ?_ ?_)
  · simpa [State.lossRecorded, State.lossGauge] using hs
  all_goals simp [declareLoss_eq, State.lossHeld, State.lossTold]

theorem dropout (inv : WriterInvariant P) (h : P s) (hp : s.power = .running) : P (dropout s) := by
  unfold Machine.dropout
  (repeat' split)
  case h_1 | h_2 => exact inv.declareLoss h hp (by simp [*])
  case h_3 => exact inv.rests h (awake (by simp [*]) (by simp) (by simp))
  all_goals exact h

theorem pulse (inv : WriterInvariant P) (h : P s) : P (pulse s) := by
  have seen : P { s with supply := { s.supply with absence := 0, pulseSeen := true } } :=
    inv.rests h ⟨rfl, id, rfl⟩
  unfold Machine.pulse
  dsimp only
  (repeat' split)
  case h_1.isTrue | h_2.isTrue => exact inv.returns seen
  all_goals exact seen

theorem newReading (inv : WriterInvariant P) (x : VholdReading) (h : P s) : P (newReading x s) := by
  have read : P { s with supply := { s.supply with vhold := x } } := inv.rests h ⟨rfl, id, rfl⟩
  unfold Machine.newReading
  dsimp only
  (repeat' split)
  case h_1.isTrue | h_2.isTrue => exact inv.rests read ⟨rfl, fun _ => rfl, rfl⟩
  case h_3.isTrue => exact inv.returns read
  all_goals exact read

theorem confirmStart (inv : WriterInvariant P) (h : P s) : P (confirmStart s) := by
  unfold Machine.confirmStart
  dsimp only
  split
  · rename_i hs
    refine inv.rests h (awake (by simp [hs.1]) ?_ ?_) <;> split <;> simp
  · exact h

theorem confirmReturn (inv : WriterInvariant P) (h : P s) (hp : s.power = .running) : P (confirmReturn s) := by
  rw [confirmReturn_eq]
  dsimp only
  split
  · rename_i hs
    have same : s.backOnMains.power = s.power ∧ s.backOnMains.journal = s.journal := by
      unfold State.backOnMains
      dsimp only
      split <;> simp
    have back : P s.backOnMains := inv.rests h (awake (by simp [hs.1]) same.1 same.2)
    split
    · exact inv.assess .timer _ 0 back (same.1.trans hp)
    · exact inv.rests back ⟨rfl, id, rfl⟩
  · exact h

/-! ### Every step -/

/-- A request of a kind whose rule can queue a record, taken into service. -/
theorem served (inv : WriterInvariant P) {k : RequestKind} {owner : Request → State → State} (hs : P s)
    (own : ∀ r u, P u → u.power = .running → P (owner r u)) (h : whenRunning (serveKind k owner) s = .next t) :
    P t :=
  whenRunning_keeps hs (fun hp => takeIntoService_keeps _ hs
    (fun _ _ hu => inv.rests hu ⟨rfl, id, rfl⟩) (fun r u hu hu' => own r u hu (hu'.trans hp))) h

theorem pinStart (inv : WriterInvariant P) (hs : P s) (h : exec .pinStart s = .next t) : P t := by
  refine Host.Outcome.next.inj h ▸ ?_
  split
  · rename_i hw
    exact tornSlots_of_rest hw.2 ▸ inv.starts .pin hs
  · exact hs

theorem exec_keeps (inv : WriterInvariant P) {c : Instr} (hm : movesWriter c = true) (hs : P s)
    (h : exec c s = .next t) : P t := by
  cases c
  case writeProgress mosi =>
    refine transaction_keeps hs (fun _ _ hu => inv.rests hu ⟨rfl, id, rfl⟩) (fun hp => ?_) h
    unfold writeProgressBody
    split
    · exact hs
    · exact inv.commitProgress _ hs hp
  case configure => exact inv.served hs (fun r _ => inv.configureOwner r) h
  case openCycle => exact inv.served hs (fun r _ => inv.openCycleOwner r) h
  case hostStop => exact inv.served hs (fun r _ => inv.hostStopOwner r) h
  case continueCycle => exact inv.served hs (fun r _ => inv.continueCycleOwner r) h
  case closeCycle => exact inv.served hs (fun r _ => inv.closeCycleOwner r) h
  case resumeAnswer => exact inv.served hs (fun r _ => inv.resumeAnswerOwner r) h
  case journalInterval => exact whenRunning_keeps hs (inv.intervalExpiry hs) h
  case stillTimerSecond => exact whenRunning_keeps hs (inv.stillSecond hs) h
  case dropout => exact whenRunning_keeps hs (inv.dropout hs) h
  case returnConfirmation => exact whenRunning_keeps hs (fun _ => inv.confirmStart hs) h
  case warmReturn => exact whenRunning_keeps hs (inv.confirmReturn hs) h
  case holdExpiry => exact whenRunning_keeps hs (inv.holdEnd hs) h
  case startupReadingEnd counter =>
    simp only [exec, execStartupReadingEnd] at h
    refine whenRunning_keeps hs (fun hp => ?_) h
    split
    · exact inv.endReading counter hs hp
    · exact hs
  case vholdReading x => exact Host.Outcome.next.inj h ▸ inv.newReading x hs
  case mainsZcPulse =>
    refine Host.Outcome.next.inj h ▸ ?_
    split
    · exact inv.pulse hs
    · exact hs
  case writeComplete =>
    refine Host.Outcome.next.inj h ▸ ?_
    split
    · split
      · exact hs
      · exact inv.ends hs ‹_›
    · exact hs
  case coldStart => exact Host.Outcome.next.inj h ▸ inv.starts .cold hs
  case coreSupplyFail =>
    refine Host.Outcome.next.inj h ▸ ?_
    split
    · exact hs
    · exact inv.fails hs
  case resetN n =>
    refine Host.Outcome.next.inj h ▸ ?_
    split
    · exact inv.resets hs
    · exact hs
  case pinStart => exact inv.pinStart hs h
  case recoveryScan =>
    refine Host.Outcome.next.inj h ▸ ?_
    split
    · exact inv.scans hs ‹_›
    · exact hs
  all_goals cases hm

/-- Such a property is kept by every step. -/
theorem kept (inv : WriterInvariant P) (hs : P s) (h : step s = .next t) : P t := by
  unfold step at h
  split at h
  · rename_i c rest _
    have front : P { s with pending := rest } := inv.rests hs ⟨rfl, id, rfl⟩
    cases hc : movesWriter c with
    | true => exact inv.exec_keeps hc front h
    | false => exact inv.rests front (exec_writerRests hc h)
  · exact Host.Outcome.next.inj h ▸ inv.rests hs (idle_writerRests s)

end WriterInvariant

end Sys2Proof.Machine
end

section
/-! The rule of the waiting record over every step (R25, R28, R31). -/

namespace Sys2Proof.Machine

variable {s t : State}

namespace WriterSound

/-- A part with no record waiting. -/
theorem of_none (h : s.journal.waiting = none) : WriterSound s := fun waits => absurd h waits

theorem congr (h : WriterSound s) (rests : WriterRests s t) : WriterSound t := by
  obtain ⟨hp, hd, hj⟩ := rests
  intro waits
  rw [hj] at waits ⊢
  obtain ⟨running, behind⟩ := h waits
  exact ⟨hp.trans running, behind.imp_right hd⟩

end WriterSound

theorem queueRecord_writerSound (body : Snapshot) (hp : s.power = .running) : WriterSound (queueRecord body s) := by
  obtain ⟨-, -, he⟩ | ⟨behind, he⟩ := queueRecord_cases s body
  · exact .of_none (by rw [he]; rfl)
  · rw [he]
    exact fun _ => ⟨hp, behind⟩

theorem completeWrite_writerSound (f : InFlight) (h : WriterSound s) : WriterSound (completeWrite f s) := by
  obtain ⟨b, -, -, -, he⟩ | ⟨rests, he⟩ := completeWrite_cases f s
  · exact .of_none (by rw [he]; rfl)
  · rw [he]
    intro waits
    have running := (h waits).1
    obtain none_waits | off | dormant := rests
    · exact absurd none_waits waits
    · exact absurd running off
    · exact ⟨running, .inr dormant⟩

/-- A record that still waits after the start of waiting records waits behind one in flight. -/
theorem startWaiting_waits_behind (h : (startWaiting s).journal.waiting ≠ none) :
    s.journal.waiting ≠ none ∧ (startWaiting s).journal.inFlight ≠ none := by
  unfold startWaiting at h ⊢
  split at h
  · exact absurd rfl h
  next other =>
    obtain ⟨b, waits⟩ := Option.ne_none_iff_exists'.mp h
    exact ⟨h, fun free => other b free waits⟩

theorem enterReturning_writerSound (h : WriterSound s) : WriterSound (enterReturning s) := by
  intro waits
  obtain ⟨before, behind⟩ := startWaiting_waits_behind waits
  exact ⟨by simpa using (h before).1, .inl behind⟩

/-- The operations of the writer keep the rule of the waiting record. -/
theorem writerSound_invariant : WriterInvariant WriterSound where
  rests := WriterSound.congr
  queues body _ hp := queueRecord_writerSound body hp
  ends h _ := completeWrite_writerSound _ h
  returns := enterReturning_writerSound
  starts _ _ := .of_none rfl
  fails _ := .of_none rfl
  resets _ := .of_none rfl
  scans _ _ := .of_none rfl

/-- Settles O8, operation by operation of the writer's. -/
theorem writerKept : Obligations.WriterKept := fun _ _ => writerSound_invariant.kept

end Sys2Proof.Machine
end

section
/-! The ring of records over every step (R26, R27, R30, R34). -/

namespace Sys2Proof.Machine

variable {s t : State} {next : Fin 32} {seq : BitVec 32} {slots : Vector Slot 32}

/-! ## What moves the ring -/

theorem ringDistance_of_succ {slot : Fin 32} (h : slot + 1 = next) : ringDistance next slot = 1 := by
  subst h
  have after := ringDistance_after (next := slot) (Nat.le_refl (ringDistance slot slot))
  omega

/-- The slot in flight given a value that is not valid, or lies at its number's distance. -/
theorem RingAt.set {slot : Fin 32} {v : Slot} (ring : RingAt next seq (some slot) slots)
    (hv : ∀ r, v.valid? = some r → r.seq = seq - BitVec.ofNat 32 (ringDistance next slot)) :
    RingAt next seq none (slots.set slot v) := by
  intro i r _ hr
  by_cases h : i = slot
  · subst h
    exact hv r (by simpa [Vector.get_eq_getElem] using hr)
  · have other : slot.val ≠ i.val := fun e => h (Fin.ext e.symm)
    refine ring i r (by simpa using h) ?_
    simpa [Vector.get_eq_getElem, Vector.getElem_set_ne, other] using hr

/-- A write takes the next place, and every other slot falls one further behind (R26). -/
theorem RingAt.write (ring : RingAt next seq none slots) : RingAt (next + 1) (seq + 1) (some next) slots := by
  intro i r other hr
  have le := ringDistance_le next i
  rw [ring.seq_eq hr, ringDistance_succ (by simpa using other)]
  bv_omega

/-- The ring fits the place after its newest record (R34). -/
theorem RingAt.after_newest (ring : RingAt next seq none slots) {i : Fin 32} {r : Record}
    (hr : HoldsAt slots i r) (ur : Unsurpassed slots r) : RingAt (i + 1) (r.seq + 1) none slots := by
  intro j q _ hq
  have nearest := (ring.unsurpassed_iff hr).mp ur j q hq
  have after := ringDistance_after nearest
  have le := ringDistance_le next j
  rw [ring.seq_eq hr, ring.seq_eq hq]
  bv_omega

/-! ## The parts that have a sound ring -/

namespace RingSound

/-- The invariant looks at the power and at the journal but for the waiting record and the interval timer. -/
theorem of_journal (h : RingSound s) (hp : t.power = s.power)
    (hj : t.journal = { s.journal with
      waiting := t.journal.waiting
      intervalRunning := t.journal.intervalRunning, intervalTicks := t.journal.intervalTicks }) :
    RingSound t := by
  obtain ⟨⟨next, seq, ring, place, bound⟩, flying⟩ := h
  refine ⟨⟨next, seq, ?_⟩, ?_⟩ <;> rw [hp, hj]
  · exact ⟨ring, place, bound⟩
  · exact flying

theorem congr (h : RingSound s) (rests : WriterRests s t) : RingSound t := by
  obtain ⟨hp, -, hj⟩ := rests
  refine h.of_journal hp ?_
  rw [hj]

/-- A part with nothing in flight. -/
theorem of_rest (ring : RingAt next seq none s.journal.slots) (hw : s.journal.inFlight = none)
    (place : s.power = .running → next = s.journal.nextSlot ∧ seq = s.journal.nextSeq) : RingSound s :=
  ⟨⟨next, seq, by rwa [hw], place, fun f hf => by rw [hw] at hf; cases hf⟩, fun hf => absurd hw hf⟩

/-- The ring of a running part with nothing in flight lies behind the writer's place. -/
theorem ring_of_rest (h : RingSound s) (hp : s.power = .running) (hw : s.journal.inFlight = none) :
    RingAt s.journal.nextSlot s.journal.nextSeq none s.journal.slots := by
  obtain ⟨⟨next, seq, ring, place, -⟩, -⟩ := h
  obtain ⟨rfl, rfl⟩ := place hp
  rwa [hw] at ring

/-- The store after a loss of core supply fits the place it fitted (R30). -/
theorem ring_torn (h : RingSound s) : ∃ next seq, RingAt next seq none (tornSlots s.journal) := by
  obtain ⟨⟨next, seq, ring, -, -⟩, -⟩ := h
  refine ⟨next, seq, ?_⟩
  cases hw : s.journal.inFlight with
  | none =>
    rw [tornSlots_of_rest hw]
    rwa [hw] at ring
  | some f =>
    rw [tornSlots_of_inFlight hw]
    rw [hw] at ring
    exact RingAt.set ring fun r hr => by simp [Slot.valid?] at hr

end RingSound

/-! ## The operations of the writer -/

theorem startWrite_ringSound (body : Snapshot) (h : RingSound s) (hp : s.power = .running)
    (hw : s.journal.inFlight = none) : RingSound (startWrite body s) := by
  refine ⟨⟨s.journal.nextSlot + 1, s.journal.nextSeq + 1, (h.ring_of_rest hp hw).write, fun _ => ⟨rfl, rfl⟩, ?_⟩,
    fun _ => .inl hp⟩
  rintro f ⟨rfl⟩
  exact ⟨rfl, rfl, by simp [Slot.valid?, makeRecord]⟩

/-- A waiting record's write, started where nothing is in flight. -/
theorem startWrite_waiting_ringSound (body : Snapshot) (h : RingSound s) (hp : s.power = .running)
    (hw : s.journal.inFlight = none) :
    RingSound (startWrite body { s with journal := { s.journal with waiting := none } }) :=
  startWrite_ringSound body (h.of_journal (t := { s with journal := { s.journal with waiting := none } }) rfl rfl)
    hp hw

theorem queueRecord_ringSound (body : Snapshot) (h : RingSound s) (hp : s.power = .running) :
    RingSound (queueRecord body s) := by
  obtain ⟨hw, -, he⟩ | ⟨-, he⟩ := queueRecord_cases s body
  · rw [he]
    exact startWrite_waiting_ringSound body h hp hw
  · rw [he]
    exact h.of_journal rfl rfl

theorem written_ringSound {f : InFlight} (h : RingSound s) (hw : s.journal.inFlight = some f) :
    RingSound (s.written f) := by
  obtain ⟨⟨next, seq, ring, place, bound⟩, -⟩ := h
  obtain ⟨slot, number, whole⟩ := bound f hw
  rw [hw] at ring
  refine .of_rest (RingAt.set ring fun r hr => ?_) rfl place
  obtain rfl : f.record = r := Option.some.inj (whole.symm.trans hr)
  rw [ringDistance_of_succ slot, ← number]
  bv_omega

theorem completeWrite_ringSound {f : InFlight} (h : RingSound s) (hw : s.journal.inFlight = some f) :
    RingSound (completeWrite f s) := by
  have written := written_ringSound h hw
  obtain ⟨b, -, running, -, he⟩ | ⟨-, he⟩ := completeWrite_cases f s
  · rw [he]
    exact startWrite_waiting_ringSound b written running rfl
  · rwa [he]

/-- A record waits in a running part alone, so that one started at the entry into RETURNING has its place. -/
theorem enterReturning_ringSound (hw : WriterSound s) (h : RingSound s) : RingSound (enterReturning s) := by
  unfold enterReturning
  obtain he | ⟨b, free, waits, he⟩ := startWaiting_cases
    { s with supply := { s.supply with supplyState := .returning, settle := 0, settleOpen := false } }
  · rw [he]
    exact h.of_journal rfl rfl
  · rw [he]
    have running := (hw (by simpa using Option.ne_none_iff_exists'.mpr ⟨b, waits⟩)).1
    exact startWrite_waiting_ringSound b (h.of_journal rfl rfl) running free

theorem endScan_ringSound (h : RingSound s) (hp : s.power = .scanning) : RingSound (endScan s) := by
  have free : s.journal.inFlight = none := by_contra fun hw => by simpa [hp] using h.flying hw
  obtain ⟨⟨next, seq, ring, -, -⟩, -⟩ := h
  replace ring : RingAt next seq none s.journal.slots := by rwa [free] at ring
  obtain ⟨found, blank⟩ := endScan_handsOn (s := s)
  cases hn : newestRecord s.journal.slots with
  | none =>
    have empty : RingAt (endScan s).journal.nextSlot (endScan s).journal.nextSeq none (endScan s).journal.slots :=
      fun i r _ hr => absurd hn (ring.newestRecord_ne_none hr)
    exact .of_rest empty rfl fun _ => ⟨rfl, rfl⟩
  | some x =>
    obtain ⟨hi, hr, ur⟩ := newestRecord_spec hn
    obtain ⟨slot, number, -⟩ := found x.1 x.2 hn
    have place : (⟨x.1, hi⟩ : Fin 32) + 1 = (endScan s).journal.nextSlot := Fin.ext (by simp [slot, Fin.val_add])
    exact .of_rest (ring.after_newest hr ur) rfl fun _ => ⟨place, number.symm⟩

/-- The operations of the writer keep both of its rules. -/
theorem ringSound_invariant : WriterInvariant fun s => WriterSound s ∧ RingSound s where
  rests h rests := ⟨writerSound_invariant.rests h.1 rests, h.2.congr rests⟩
  queues body h hp := ⟨writerSound_invariant.queues body h.1 hp, queueRecord_ringSound body h.2 hp⟩
  ends h hw := ⟨writerSound_invariant.ends h.1 hw, completeWrite_ringSound h.2 hw⟩
  returns h := ⟨writerSound_invariant.returns h.1, enterReturning_ringSound h.1 h.2⟩
  starts cause h := by
    obtain ⟨next, seq, ring⟩ := h.2.ring_torn
    exact ⟨writerSound_invariant.starts cause h.1, .of_rest ring rfl nofun⟩
  fails h := by
    obtain ⟨next, seq, ring⟩ := h.2.ring_torn
    exact ⟨writerSound_invariant.fails h.1, .of_rest ring rfl nofun⟩
  resets h := by
    obtain ⟨⟨next, seq, ring, -, bound⟩, -⟩ := h.2
    exact ⟨writerSound_invariant.resets h.1, ⟨next, seq, ring, nofun, bound⟩, fun _ => .inr rfl⟩
  scans h hp := ⟨writerSound_invariant.scans h.1 hp, endScan_ringSound h.2 hp⟩

/-- Settles O13, operation by operation of the writer's, with the rule of the waiting record beside it. -/
theorem ringKept : Obligations.RingKept := fun _ _ writer ring h => (ringSound_invariant.kept ⟨writer, ring⟩ h).2

end Sys2Proof.Machine
end

section
/-! The tests common to every kind of request (R49, R154). -/

namespace Sys2Proof.Machine

variable {s : State} {r : Request} {rest : List Request}

theorem requestKindOf_eq_none_iff {b : Byte} : requestKindOf b = none ↔ ∀ k : RequestKind, b ≠ k.code := by
  refine ⟨fun unknown k hk => ?_, fun unknown => ?_⟩
  · rw [hk, requestKindOf_code] at unknown
    cases unknown
  · exact List.find?_eq_none.mpr fun k _ named => unknown k (beq_iff_eq.mp named).symm

/-! ## The common tests in their order -/

theorem commonRefusal_away (away : s.supply.supplyState = .holding ∨ s.supply.supplyState = .dormant
    ∨ s.supply.supplyState = .returning) : commonRefusal s r = some .supplyLost :=
  if_pos away

theorem commonRefusal_unknown (present : ¬ (s.supply.supplyState = .holding ∨ s.supply.supplyState = .dormant
    ∨ s.supply.supplyState = .returning)) (unknown : requestKindOf r.kind = none) :
    commonRefusal s r = some .badKind := by
  rw [commonRefusal, if_neg present, if_pos unknown]

theorem commonRefusal_unconfigured (present : ¬ (s.supply.supplyState = .holding
    ∨ s.supply.supplyState = .dormant ∨ s.supply.supplyState = .returning))
    (known : requestKindOf r.kind ≠ none) (other : r.kind ≠ RequestKind.configure.code)
    (unconfigured : s.settings = none) : commonRefusal s r = some .notConfigured := by
  rw [commonRefusal, if_neg present, if_neg known, if_pos ⟨other, unconfigured⟩]

/-! ## A request that its command takes, and one that it does not -/

theorem takeIntoService_refused {isKind : Byte → Bool} {owner : Request → State → State} {x : Result}
    (free : s.port.inService = none) (head : s.port.requests = r :: rest) (kind : isKind r.kind = true)
    (refused : commonRefusal s r = some x) :
    takeIntoService isKind owner s = { s with port := answered r rest x 0 s.port } := by
  have common : commonRefusal (s.serving r rest) r = some x := refused
  rw [← completeService_serving x free]
  simp only [State.serving] at common ⊢
  simp [takeIntoService, free, head, kind, common]

theorem takeIntoService_other {isKind : Byte → Bool} {owner : Request → State → State}
    (head : s.port.requests = r :: rest) (kind : isKind r.kind = false) : takeIntoService isKind owner s = s := by
  obtain same | ⟨r', rest', -, -, head', kind', -⟩ := takeIntoService_cases s isKind owner
  · exact same
  · obtain ⟨rfl, -⟩ := List.cons.inj (head.symm.trans head')
    simp [kind] at kind'

theorem exec_command_refused {k : RequestKind} {x : Result} (hp : s.power = .running)
    (free : s.port.inService = none) (head : s.port.requests = r :: rest) (kind : r.kind = k.code)
    (refused : commonRefusal s r = some x) :
    exec k.command s = .next { s with port := answered r rest x 0 s.port } := by
  rw [exec_command, whenRunning_running _ hp]
  exact congrArg _ (takeIntoService_refused free head (beq_iff_eq.mpr kind) refused)

theorem exec_unknownKindServed_refused {x : Result} (hp : s.power = .running) (free : s.port.inService = none)
    (head : s.port.requests = r :: rest) (unknown : requestKindOf r.kind = none)
    (refused : commonRefusal s r = some x) :
    exec .unknownKindServed s = .next { s with port := answered r rest x 0 s.port } :=
  (whenRunning_running _ hp).trans (congrArg _ (takeIntoService_refused free head (by simp [unknown]) refused))

/-- Settles O20: the common test that refuses, by the kind of the request and the supply state. -/
theorem commonTestsRefuse : Obligations.CommonTestsRefuse := by
  intro s r rest hp free head away
  refine ⟨fun k kind => ?known, fun unknown => ?unknown, fun k kind => ?other, fun k kind => ?unnamed⟩
  case known =>
    have refuse := fun {x} => exec_command_refused (x := x) hp free head kind
    refine ⟨fun gone => refuse (commonRefusal_away gone), fun present hk unconfigured => ?_⟩
    have known : requestKindOf r.kind ≠ none := by simp [kind, requestKindOf_code]
    have other : r.kind ≠ RequestKind.configure.code := fun same =>
      hk (Option.some.inj (by rw [← requestKindOf_code, ← requestKindOf_code, ← kind, same]))
    exact refuse (commonRefusal_unconfigured present known other unconfigured)
  case unknown =>
    have unnamed := requestKindOf_eq_none_iff.mpr unknown
    have refuse := fun {x} => exec_unknownKindServed_refused (x := x) hp free head unnamed
    exact ⟨fun gone => refuse (commonRefusal_away gone),
      fun present => refuse (commonRefusal_unknown present unnamed)⟩
  case other =>
    rw [exec_command, whenRunning_running _ hp]
    exact congrArg _ (takeIntoService_other head (beq_eq_false_iff_ne.mpr kind))
  case unnamed =>
    have named : (requestKindOf r.kind == none) = false := by simp [kind, requestKindOf_code]
    exact (whenRunning_running _ hp).trans (congrArg _ (takeIntoService_other head named))

end Sys2Proof.Machine
end

section
/-! The moments of the loss timer, the waiting ages, the spacing, the ramp and the on-time (R45, R120, R128,
R143). -/

namespace Sys2Proof.Machine

variable {s : State}

theorem lossSecond_due (runs : s.supply.lossRunning = true) (h : 100 ≤ s.supply.lossTicks) :
    lossSecond s = { s with supply := { s.supply with
      lossReading := min 65535 (s.supply.lossReading + 1), lossTicks := 0 } } :=
  if_pos ⟨runs, h⟩

theorem lossSecond_early (h : s.supply.lossRunning = false ∨ s.supply.lossTicks < 100) : lossSecond s = s := by
  refine if_neg fun ⟨runs, due⟩ => ?_
  obtain stopped | early := h
  · simp [stopped] at runs
  · exact absurd due (Nat.not_le.mpr early)

/-! ## Timers that run, stand idle, and reach their limit -/

/-- What a timer's command does once the timer has come to its limit, and what it does before. -/
theorem next_atLimit {timer : Option Nat} {n : Nat} (ht : timer = some n) (limit : Nat) (due early : State) :
    let answer : Host.Outcome State Fault Refusal := .next (if atLimit timer limit then due else early)
    (limit ≤ n → answer = .next due) ∧ (n < limit → answer = .next early) := by
  simp +contextual [atLimit, ht, Nat.not_le.mpr]

theorem atLimit_of_none {timer : Option Nat} (ht : timer = none) (limit : Nat) : ¬ atLimit timer limit = true := by
  simp [atLimit, ht]

/-! ## The timers' commands in a running part -/

theorem exec_waitingAgeSecond (n : Nat) (hp : s.power = .running) :
    exec (.waitingAgeSecond n) s = .next { s with admission := { s.admission with
      pending := s.admission.pending.map (StepRequest.olderAt n) } } :=
  congrArg _ (if_pos hp)

theorem exec_spacingElapsed (hp : s.power = .running) :
    exec .spacingElapsed s = .next (if atLimit s.admission.spacing (spacingLimit s) then
      { s with admission := { s.admission with spacing := none } } else s) :=
  whenRunning_running _ hp

theorem exec_rampElapsed (hp : s.power = .running) :
    exec .rampElapsed s = .next (if atLimit s.admission.ramp (rampLimit s) then
      { s with admission := { s.admission with ramp := none } } else s) :=
  whenRunning_running _ hp

theorem exec_onTimeEnd (hp : s.power = .running) :
    exec .onTimeEnd s = .next (if atLimit s.permits.period (currentOnTime s) then
      { s with permits := { s.permits with heat := false } } else s) :=
  whenRunning_running _ hp

/-- Settles O41, timer by timer. -/
theorem timersReachTheirMoments : Obligations.TimersReachTheirMoments := by
  intro s hp
  refine ⟨fun runs due => ?_, fun early => ?_, fun n => ?age, ?spacing, ?spacingIdle, ?ramp, ?rampIdle, ?onTime⟩
  · exact (whenRunning_running _ hp).trans (congrArg _ (lossSecond_due runs due))
  · exact (whenRunning_running _ hp).trans (congrArg _ (lossSecond_early early))
  case age =>
    refine ⟨_, exec_waitingAgeSecond n hp, rfl, List.length_map _, fun i p hi => ?_, fun b hb => ?_⟩
    · rw [List.getElem?_map, hi]
      rfl
    · cases b <;> simp_all [Block.Same]
  case spacing =>
    rw [exec_spacingElapsed hp]
    exact fun k hk => next_atLimit hk _ _ _
  case spacingIdle => exact fun idle => (exec_spacingElapsed hp).trans (congrArg _ (if_neg (atLimit_of_none idle _)))
  case ramp =>
    rw [exec_rampElapsed hp]
    exact fun k hk => next_atLimit hk _ _ _
  case rampIdle => exact fun idle => (exec_rampElapsed hp).trans (congrArg _ (if_neg (atLimit_of_none idle _)))
  case onTime =>
    rw [exec_onTimeEnd hp]
    exact fun k hk => next_atLimit hk _ _ _

end Sys2Proof.Machine
end

section
/-! What every command leaves: the commands that wait, and, but for the starts and the loss of core supply, the
reset cause and the settings in force (R53, R158). -/

namespace Sys2Proof.Machine

variable {s t u : State}

/-- The meaning of every command is a next state (log entry 2). -/
theorem exec_next (c : Instr) (s : State) : ∃ t, exec c s = .next t := by
  cases c <;> exact ⟨_, rfl⟩

/-- The commands that wait, the reset cause and the settings in force stand as they stood. -/
def SameSetup (s t : State) : Prop :=
  t.pending = s.pending ∧ t.supply.cause = s.supply.cause ∧ (s.settings ≠ none → t.settings = s.settings)

theorem SameSetup.refl (s : State) : SameSetup s s := ⟨rfl, rfl, fun _ => rfl⟩

theorem SameSetup.trans (h : SameSetup s t) (h' : SameSetup t u) : SameSetup s u := by
  obtain ⟨hq, hc, hs⟩ := h
  obtain ⟨hq', hc', hs'⟩ := h'
  exact ⟨hq'.trans hq, hc'.trans hc, fun set => (hs' (hs set ▸ set)).trans (hs set)⟩

/-! ## CONFIGURE and the loss sequence -/

/-- A configured part stays as it was configured (R157). -/
theorem decideConfigure_sameSetup (r : Request) (s : State) : SameSetup s (decideConfigure r s) := by
  refine ⟨by simp, by simp, fun configured => ?_⟩
  have refused : decideConfigure r s = completeService .alreadyConfigured 0 s := if_pos configured
  simp [refused]

theorem configureOwner_sameSetup (r : Request) (s : State) : SameSetup s (configureOwner r s) := by
  unfold configureOwner
  split
  · exact .refl s
  · exact decideConfigure_sameSetup r s

theorem endReading_sameSetup (n : BitVec 16) (s : State) : SameSetup s (resumeConfigure (endReading n s)) := by
  have read : SameSetup s (endReading n s) := by simp [SameSetup]
  unfold resumeConfigure
  split
  · exact read.trans (decideConfigure_sameSetup _ _)
  · exact read

theorem declareLoss_sameSetup (s : State) : SameSetup s (declareLoss s) := by simp [SameSetup, declareLoss]

theorem dropout_sameSetup (s : State) : SameSetup s (dropout s) := by
  unfold dropout
  (repeat' split)
  case h_1 | h_2 => exact declareLoss_sameSetup s
  all_goals simp [SameSetup]

/-! ## Requests and transactions -/

theorem owner_sameSetup (k : RequestKind) (r : Request) (s : State) : SameSetup s (k.owner r s) := by
  cases k
  case configure => exact configureOwner_sameSetup r s
  all_goals simp [SameSetup, RequestKind.owner]

theorem takeIntoService_sameSetup (isKind : Byte → Bool) {owner : Request → State → State} (s : State)
    (own : ∀ r u, SameSetup u (owner r u)) : SameSetup s (takeIntoService isKind owner s) :=
  takeIntoService_keeps (P := SameSetup s) isKind (.refl s) (fun _ _ hu => hu) (fun r u hu _ => hu.trans (own r u))

theorem whenRunning_sameSetup {f : State → State} (hf : SameSetup s (f s)) (h : whenRunning f s = .next t) :
    SameSetup s t :=
  whenRunning_keeps (.refl s) (fun _ => hf) h

theorem exec_command_sameSetup (k : RequestKind) (h : exec k.command s = .next t) : SameSetup s t := by
  rw [exec_command] at h
  exact whenRunning_sameSetup (takeIntoService_sameSetup _ s (owner_sameSetup k)) h

theorem transaction_sameSetup {k : TransactionKind} {mosi : List Byte}
    {body : List Byte → State → State × List Byte} (hb : ∀ m, SameSetup s (body m s).1)
    (h : (.next (transaction k mosi body s) : Host.Outcome State Fault Refusal) = .next t) : SameSetup s t :=
  transaction_keeps (.refl s) (fun _ _ hu => hu) (fun _ => hb _) h

/-! ## Every command -/

theorem exec_sameSetup {c : Instr} (cold : c ≠ .coldStart) (fail : c ≠ .coreSupplyFail) (pin : c ≠ .pinStart)
    (h : exec c s = .next t) : SameSetup s t := by
  cases c
  case coldStart | coreSupplyFail | pinStart => contradiction
  case sendRequest | takeEvent | writeProgress | readStatus =>
    refine transaction_sameSetup (fun m => ?_) h
    simp only [sendRequestBody, takeEventBody, writeProgressBody, readStatusBody]
    (repeat' split) <;> simp [SameSetup]
  case configure => exact exec_command_sameSetup .configure h
  case openCycle => exact exec_command_sameSetup .openCycle h
  case requestStep => exact exec_command_sameSetup .requestStep h
  case dropStep => exact exec_command_sameSetup .dropStep h
  case hostStop => exact exec_command_sameSetup .hostStop h
  case continueCycle => exact exec_command_sameSetup .continueCycle h
  case closeCycle => exact exec_command_sameSetup .closeCycle h
  case resumeAnswer => exact exec_command_sameSetup .resumeAnswer h
  case unknownKindServed =>
    exact whenRunning_sameSetup (takeIntoService_sameSetup _ s fun r u => by simp [SameSetup]) h
  case dropout => exact whenRunning_sameSetup (dropout_sameSetup s) h
  case startupReadingEnd n =>
    refine whenRunning_sameSetup ?_ h
    split
    · exact endReading_sameSetup n s
    · exact .refl s
  case writeComplete | resetN | recoveryScan | mainsZcPulse | vholdReading =>
    simp only [exec, execWriteComplete, execResetN, execRecoveryScan, execMainsZcPulse, execVholdReading,
      Host.Outcome.next.injEq] at h
    subst h
    (repeat' split) <;> simp [SameSetup]
  all_goals
    simp only [exec, execJournalInterval, execFreshnessExpiry, execStillTimerSecond, execLossTimerSecond,
      execReturnConfirmation, execWarmReturn, execChargingConversionStart, execChargingConversionEnd,
      execRefreshStart, execRefreshEnd, execAttemptStart, execArbitrationLost, execBitError, execLineHeld,
      execFrameSent, execFrameReceived, execPresenceDue, execJoinSlot, execJoinWindowEnd, execPeerSilent,
      execPeerRemoved, execAdmissionTest, execHoldExpiry, execSpacingElapsed, execRampElapsed,
      execShedSettleExpiry, execWaitingAgeSecond, execHeatPeriodStart, execOnTimeEnd, execDoorOpening,
      execDoorClosing] at h
    refine whenRunning_sameSetup ?_ h
    (repeat' split) <;> simp [SameSetup]

/-- The starts and the loss of core supply too leave the commands that wait. -/
theorem exec_pending {c : Instr} (h : exec c s = .next t) : t.pending = s.pending := by
  by_cases start : c = .coldStart ∨ c = .coreSupplyFail ∨ c = .pinStart
  · obtain rfl | rfl | rfl := start
    · exact Host.Outcome.next.inj h ▸ rfl
    all_goals
      refine Host.Outcome.next.inj h ▸ ?_
      split <;> rfl
  · simp only [not_or] at start
    obtain ⟨cold, fail, pin⟩ := start
    obtain ⟨waiting, -⟩ := exec_sameSetup cold fail pin h
    exact waiting

/-- Settles O3. -/
theorem everyCommandAnswers : Obligations.EveryCommandAnswers :=
  ⟨exec_next, fun _ _ _ h => ⟨exec_pending h, fun cold fail pin => (exec_sameSetup cold fail pin h).2⟩⟩

end Sys2Proof.Machine
end

section
/-! The gauge's log-ratio and off-time, and the judgement of its conversions (R59 to R62, R65 to R68). -/

namespace Sys2Proof.Machine

variable {s : State}

/-! ## The log-ratio (R66, R67) -/

/-- The doublings of a count that stay within N0 are the `k` with n1 × 2^k ≤ N0 < n1 × 2^(k+1). -/
theorem doublings_eq {n0 n1 k fuel : Nat} (enough : k ≤ fuel) (low : n1 * 2 ^ k ≤ n0)
    (high : n0 < n1 * 2 ^ (k + 1)) : doublings n0 fuel n1 = k := by
  induction k generalizing fuel n1 with
  | zero =>
    cases fuel with
    | zero => rfl
    | succ fuel => exact if_neg (by omega)
  | succ k ih =>
    obtain ⟨fuel, rfl⟩ : ∃ f, fuel = f + 1 := ⟨fuel - 1, by omega⟩
    have low' : 2 * n1 * 2 ^ k ≤ n0 := by rwa [mul_comm 2 n1, mul_assoc, ← pow_succ']
    have high' : n0 < 2 * n1 * 2 ^ (k + 1) := by rwa [mul_comm 2 n1, mul_assoc, ← pow_succ']
    have fits : 2 * n1 ≤ n0 := le_trans (Nat.le_mul_of_pos_right _ (Nat.two_pow_pos k)) low'
    rw [doublings, if_pos fits, ih (by omega) low' high']

/-- Two counters' values differ by fewer than sixteen doublings. -/
theorem doublings_le_sixteen {n0 n1 k : Nat} (h0 : n0 < 65535) (h1 : 16 ≤ n1) (low : n1 * 2 ^ k ≤ n0) : k ≤ 16 := by
  have bound : 2 ^ k < 2 ^ 16 := by
    have := Nat.mul_le_mul_right (2 ^ k) h1
    omega
  exact ((Nat.pow_lt_pow_iff_right (by omega)).mp bound).le

theorem tableRatio_eq {n0 n1 k : Nat} (h0 : n0 < 65535) (h1 : 16 ≤ n1) (low : n1 * 2 ^ k ≤ n0)
    (high : n0 < n1 * 2 ^ (k + 1)) :
    tableRatio n0 n1 = if 8 ≤ k then .over
      else .ratio (256 * k + ratioTable.getD (16 * (n0 - n1 * 2 ^ k) / (n1 * 2 ^ k)) 0) := by
  rw [tableRatio, doublings_eq (doublings_le_sixteen h0 h1 low) low high]

theorem logRatioOf_table {n0 n1 : Nat} (full : 4096 ≤ n0) (h1 : 16 ≤ n1) (above : n1 < n0) :
    logRatioOf n0 (.count n1) = tableRatio n0 n1 := by
  rw [logRatioOf, if_neg (by simpa [Config.leastFullCount] using full), if_neg (by omega), if_neg (by omega)]

/-- Every entry of the table T is at most 244. -/
theorem ratioTable_entry {j : Nat} (hj : j < 16) : ∃ x, ratioTable[j]? = some x ∧ x ≤ 244 := by
  have inside : j < ratioTable.length := hj
  have small : ∀ x ∈ ratioTable, x ≤ 244 := by decide
  exact ⟨ratioTable[j], List.getElem?_eq_getElem inside, small _ (List.getElem_mem inside)⟩

theorem logRatioOf_small {n0 : Nat} (n1 : Nat) (h : n0 < 4096) : logRatioOf n0 (.count n1) = .unknown :=
  if_pos h

theorem logRatioOf_dark {n0 n1 : Nat} (full : 4096 ≤ n0) (h : n1 < 16) : logRatioOf n0 (.count n1) = .over := by
  rw [logRatioOf, if_neg (by simpa [Config.leastFullCount] using full), if_pos h]

theorem logRatioOf_undecayed {n0 n1 : Nat} (full : 4096 ≤ n0) (h1 : 16 ≤ n1) (h : n0 ≤ n1) :
    logRatioOf n0 (.count n1) = .ratio 0 := by
  rw [logRatioOf, if_neg (by simpa [Config.leastFullCount] using full), if_neg (by omega), if_pos h]

/-! ## The gauge off-time (R68) -/

theorem clamp_le {low high : Nat} (n : Nat) (h : low ≤ high) : clamp low high n ≤ high :=
  max_le h (min_le_left _ _)

theorem offSeconds_le (c : Settings) {l : Nat} (h : l ≤ 2036) : l * c.clamped.halfLife / 256 ≤ 14315 := by
  have product : l * c.clamped.halfLife ≤ 2036 * 1800 :=
    Nat.mul_le_mul h (clamp_le c.halfLife (by omega))
  omega

/-- Settles O43, case by case of R66; the table's place is below 16 because N0 is below twice the scaled count. -/
theorem logRatioAndOffTime : Obligations.LogRatioAndOffTime := by
  refine ⟨⟨fun n0 => ⟨rfl, rfl⟩, fun n0 n1 => ⟨logRatioOf_small n1, logRatioOf_dark, logRatioOf_undecayed⟩,
    fun n0 n1 k full h0 h1 above low high => ?table⟩, fun c l hl => ⟨rfl, offSeconds_le c hl, rfl, rfl⟩⟩
  have ratio := (logRatioOf_table full h1 above).trans (tableRatio_eq h0 h1 low high)
  refine ⟨fun hk => ratio.trans (if_pos hk), fun hk => ?_⟩
  have place : 16 * (n0 - n1 * 2 ^ k) / (n1 * 2 ^ k) < 16 := by
    have scaled : 0 < n1 * 2 ^ k := Nat.mul_pos (by omega) (Nat.two_pow_pos k)
    rw [pow_succ, ← mul_assoc] at high
    exact (Nat.div_lt_iff_lt_mul scaled).mpr (by omega)
  obtain ⟨x, entry, small⟩ := ratioTable_entry place
  refine ⟨_, x, rfl, place, entry, ?_, by omega⟩
  rw [ratio, if_neg (by omega), List.getD_eq_getElem?_getD, entry]
  rfl

/-! ## The conversions (R59 to R62, R65) -/

/-- FAULT with its event, in the words of the statements (R65). -/
theorem gaugeFault_eq (cause : GaugeCause) (s : State) : gaugeFault cause s = { s with
    gauge := { s.gauge with gaugeState := .fault, converting := false }
    port := postedPort (.gaugeFault cause) s } :=
  post_eq _ _

/-- The arming test, in the words of the statements (R60). -/
theorem armingPasses_iff (previous : Option Nat) (n : Nat) :
    armingPasses previous n = true ↔ ∃ q, previous = some q ∧ n ≤ q + n / 256 ∧ q ≤ n + n / 256 := by
  cases previous with
  | none => simp [armingPasses]
  | some q =>
    simp only [armingPasses, decide_eq_true_eq, Option.some.injEq, exists_eq_left']
    omega

theorem exec_chargingConversionStart (hp : s.power = .running) :
    exec .chargingConversionStart s = .next (startCharging s) :=
  whenRunning_running _ hp

theorem exec_chargingConversionEnd (n : BitVec 16) (hp : s.power = .running) (charges : s.gauge.gaugeState = .charging)
    (converts : s.gauge.converting = true) :
    exec (.chargingConversionEnd n) s = .next (judgeCharging n s) :=
  (whenRunning_running _ hp).trans (congrArg _ (if_pos ⟨charges, converts⟩))

theorem exec_refreshStart (hp : s.power = .running) : exec .refreshStart s = .next (startRefresh s) :=
  whenRunning_running _ hp

theorem exec_refreshEnd (n : BitVec 16) (hp : s.power = .running) (armed : s.gauge.gaugeState = .armed)
    (converts : s.gauge.converting = true) :
    exec (.refreshEnd n) s = .next (judgeRefresh n s) :=
  (whenRunning_running _ hp).trans (congrArg _ (if_pos ⟨armed, converts⟩))

theorem judgeCharging_saturated {n : BitVec 16} (h : n = 65535) : judgeCharging n s = gaugeFault .saturated s :=
  if_pos h

theorem judgeCharging_arms {n : BitVec 16} (h : n ≠ 65535) (near : armingPasses s.gauge.previous n.toNat = true)
    (full : 4096 ≤ n.toNat) :
    judgeCharging n s = { s with gauge := { s.gauge with
      gaugeState := .armed, n0 := n.toNat, refreshTicks := 0, converting := false } } := by
  simp only [judgeCharging, if_neg (show ¬ n = saturatedCount from h), near, if_true]
  exact if_pos full

theorem judgeCharging_low {n : BitVec 16} (h : n ≠ 65535) (near : armingPasses s.gauge.previous n.toNat = true)
    (low : n.toNat < 4096) : judgeCharging n s = gaugeFault .lowCount (keepCount n.toNat s) := by
  simp only [judgeCharging, if_neg (show ¬ n = saturatedCount from h), near, if_true]
  exact if_neg (Nat.not_le.mpr low)

theorem judgeCharging_unsettled {n : BitVec 16} (h : n ≠ 65535)
    (far : ¬ armingPasses s.gauge.previous n.toNat = true) (late : 60 ≤ s.gauge.chargingTime) :
    judgeCharging n s = gaugeFault .notSettled (keepCount n.toNat s) := by
  simp only [judgeCharging, if_neg (show ¬ n = saturatedCount from h), if_neg far]
  exact if_pos late

theorem judgeCharging_kept {n : BitVec 16} (h : n ≠ 65535)
    (far : ¬ armingPasses s.gauge.previous n.toNat = true) (early : s.gauge.chargingTime < 60) :
    judgeCharging n s = { s with gauge := { s.gauge with previous := some n.toNat, converting := false } } := by
  simp only [judgeCharging, if_neg (show ¬ n = saturatedCount from h), if_neg far]
  exact if_neg (Nat.not_le.mpr early)

theorem judgeRefresh_saturated {n : BitVec 16} (h : n = 65535) : judgeRefresh n s = gaugeFault .saturated s :=
  if_pos h

theorem judgeRefresh_low {n : BitVec 16} (low : n.toNat < 4096) : judgeRefresh n s = gaugeFault .lowCount s := by
  have unsaturated : ¬ n = saturatedCount := fun h => by simp [h, saturatedCount] at low
  rw [judgeRefresh, if_neg unsaturated]
  exact if_pos low

theorem judgeRefresh_counts {n : BitVec 16} (h : n ≠ 65535) (full : 4096 ≤ n.toNat) :
    judgeRefresh n s = { s with gauge := { s.gauge with n0 := n.toNat, converting := false } } := by
  rw [judgeRefresh, if_neg (show ¬ n = saturatedCount from h)]
  exact if_neg (Nat.not_lt.mpr full)

/-- Settles O44, conversion by conversion. -/
theorem conversionsJudged : Obligations.ConversionsJudged := by
  refine ⟨fun s hp charges => ⟨fun rests young => ?chargeStart, fun converts n => ?chargeEnd⟩,
    fun s hp armed => ⟨fun rests => ?refreshStart, fun converts n => ?refreshEnd⟩⟩
  case chargeStart =>
    rw [exec_chargingConversionStart hp]
    exact ⟨fun due => congrArg _ (if_pos ⟨charges, rests, young, due⟩),
      fun early => congrArg _ (if_neg fun ⟨_, _, _, due⟩ => absurd due (Nat.not_le.mpr early))⟩
  case chargeEnd =>
    rw [exec_chargingConversionEnd n hp charges converts]
    have near_iff := armingPasses_iff s.gauge.previous n.toNat
    have faults : ∀ cause, gaugeFault cause (keepCount n.toNat s) = { s with
        gauge := { s.gauge with gaugeState := .fault, previous := some n.toNat, converting := false }
        port := postedPort (.gaugeFault cause) s } := fun cause => gaugeFault_eq cause _
    exact ⟨fun h => congrArg _ ((judgeCharging_saturated h).trans (gaugeFault_eq _ s)),
      fun h near full => congrArg _ (judgeCharging_arms h (near_iff.mpr near) full),
      fun h near low => congrArg _ ((judgeCharging_low h (near_iff.mpr near) low).trans (faults _)),
      fun h far late => congrArg _ ((judgeCharging_unsettled h (mt near_iff.mp far) late).trans (faults _)),
      fun h far early => congrArg _ (judgeCharging_kept h (mt near_iff.mp far) early)⟩
  case refreshStart =>
    rw [exec_refreshStart hp]
    exact ⟨fun due => congrArg _ (if_pos ⟨armed, rests, due⟩),
      fun early => congrArg _ (if_neg fun ⟨_, _, due⟩ => absurd due (Nat.not_le.mpr early))⟩
  case refreshEnd =>
    rw [exec_refreshEnd n hp armed converts]
    exact ⟨fun h => congrArg _ ((judgeRefresh_saturated h).trans (gaugeFault_eq _ s)),
      fun low => congrArg _ ((judgeRefresh_low low).trans (gaugeFault_eq _ s)),
      fun h full => congrArg _ (judgeRefresh_counts h full)⟩

end Sys2Proof.Machine
end

section
/-! CONFIGURE: its refusals, its acceptance, and the request held in service until the start-up reading ends (R58,
R65, R66, R69, R157, R158). -/

namespace Sys2Proof.Machine

variable {s : State} {r : Request} {rest : List Request}

/-! ## The settings bitmap (R157, R158) -/

theorem sum_flagBits_succ (bits : List Bool) (k : Nat) :
    ((bits.zipIdx (k + 1)).map fun (b, i) => flagBit b i).sum
      = 2 * ((bits.zipIdx k).map fun (b, i) => flagBit b i).sum := by
  induction bits generalizing k with
  | nil => rfl
  | cons b bits ih =>
    have doubled : flagBit b (k + 1) = 2 * flagBit b k := by
      cases b <;> simp [flagBit, pow_succ, mul_comm]
    simp only [List.zipIdx_cons, List.map_cons, List.sum_cons, ih, doubled, mul_add]

theorem testBit_sum_flagBits (bits : List Bool) (i : Nat) :
    (((bits.zipIdx).map fun (b, i) => flagBit b i).sum).testBit i = bits.getD i false := by
  induction bits generalizing i with
  | nil => simp
  | cons b bits ih =>
    have head : ((b :: bits).zipIdx.map fun (b, i) => flagBit b i).sum
        = Nat.bit b (bits.zipIdx.map fun (b, i) => flagBit b i).sum := by
      rw [List.zipIdx_cons, List.map_cons, List.sum_cons, sum_flagBits_succ, Nat.bit_val, add_comm]
      cases b <;> rfl
    rw [head]
    cases i with
    | zero => exact Nat.testBit_bit_zero ..
    | succ i => exact (Nat.testBit_bit_succ ..).trans (ih i)

/-- A settings bitmap has exactly the bits it was formed of. -/
theorem bitmapOf_getLsbD {bits : List Bool} (fits : bits.length ≤ 24) (i : Nat) :
    (bitmapOf bits).getLsbD i = bits.getD i false := by
  rw [bitmapOf, BitVec.getLsbD_ofNat, testBit_sum_flagBits]
  by_cases h : i < 24
  · simp [h]
  · simp [h, List.getElem?_eq_none (fits.trans (Nat.not_lt.mp h))]

theorem bitmapOf_eq_zero_iff {bits : List Bool} (fits : bits.length ≤ 24) : bitmapOf bits = 0 ↔ true ∉ bits := by
  refine ⟨fun zero set => ?_, fun clear => BitVec.eq_of_getLsbD_eq fun i _ => ?_⟩
  · obtain ⟨i, hi, bit⟩ := List.getElem_of_mem set
    have named := bitmapOf_getLsbD fits i
    simp [zero, hi, bit] at named
  · rw [bitmapOf_getLsbD fits, show (0 : BitVec 24) = 0#24 from rfl, BitVec.getLsbD_zero]
    by_contra set
    have inside : i < bits.length := by
      by_contra outside
      exact set (List.getD_eq_default _ _ (Nat.not_lt.mp outside))
    rw [List.getD_eq_getElem _ _ inside, Bool.not_eq_false] at set
    exact clear (set ▸ List.getElem_mem inside)

theorem badStationMap_eq_zero_iff (c : Settings) :
    badStationMap c = 0 ↔ ¬ (15 < c.station ∨ c.bankSize = 0 ∨ 16 < c.bankSize) := by
  rw [badStationMap, bitmapOf_eq_zero_iff (by simp)]
  simp

theorem badLimitMap_eq_zero_iff (c : Settings) :
    badLimitMap c = 0 ↔ ¬ (c.airDuct = 0 ∨ 1020 < c.heater ∨ c.feederLimit = 0 ∨ 4095 < c.feederLimit
      ∨ c.ductLimit = 0 ∨ 4095 < c.ductLimit ∨ c.feederLimit < c.drumFeeder + c.airFeeder
      ∨ c.ductLimit < c.airDuct) := by
  rw [badLimitMap, bitmapOf_eq_zero_iff (by simp)]
  simp
  omega

theorem clampedMap_eq_zero_iff (c : Settings) : clampedMap c = 0 ↔ c.clamped = c := by
  rw [clampedMap, bitmapOf_eq_zero_iff (by simp)]
  cases c
  simp [Settings.clamped]

/-! ## CONFIGURE refused, and held (R69, R157) -/

theorem exec_configure (h : Served .configure s r rest) :
    exec .configure s = .next (configureOwner r (s.serving r rest)) :=
  exec_served h

theorem configureOwner_reading (h : s.gauge.gaugeState = .idle ∨ s.gauge.gaugeState = .measuring) :
    configureOwner r s = s :=
  if_pos h

theorem configureOwner_read (h : ¬ (s.gauge.gaugeState = .idle ∨ s.gauge.gaugeState = .measuring)) :
    configureOwner r s = decideConfigure r s :=
  if_neg h

theorem decideConfigure_configured (h : s.settings ≠ none) :
    decideConfigure r s = completeService .alreadyConfigured 0 s :=
  if_pos h

theorem decideConfigure_badStation (h : s.settings = none) (station : badStationMap r.settings ≠ 0) :
    decideConfigure r s = completeService .badStation (badStationMap r.settings) s :=
  (if_neg (not_not.mpr h)).trans (if_pos station)

theorem decideConfigure_badLimit (h : s.settings = none) (station : badStationMap r.settings = 0)
    (limit : badLimitMap r.settings ≠ 0) :
    decideConfigure r s = completeService .badLimit (badLimitMap r.settings) s :=
  (if_neg (not_not.mpr h)).trans ((if_neg (not_not.mpr station)).trans (if_pos limit))

theorem decideConfigure_accepts (h : s.settings = none) (station : badStationMap r.settings = 0)
    (limit : badLimitMap r.settings = 0) : decideConfigure r s = acceptConfigure r.settings s :=
  (if_neg (not_not.mpr h)).trans ((if_neg (not_not.mpr station)).trans (if_neg (not_not.mpr limit)))

/-- A CONFIGURE that its own tests refuse, after the reading, changes nothing but the port. -/
theorem exec_configure_refused {result : Result} {m : BitVec 24} (h : Served .configure s r rest)
    (read : ¬ (s.gauge.gaugeState = .idle ∨ s.gauge.gaugeState = .measuring))
    (refuses : decideConfigure r (s.serving r rest) = completeService result m (s.serving r rest)) :
    exec .configure s = .next { s with port := answered r rest result m s.port } := by
  have owner := configureOwner_read (s := s.serving r rest) (r := r) read
  rw [exec_configure h, owner, refuses, completeService_served result m h.free rfl]
  rfl

/-- Settles O22, by the first test of R157 that fails; each bit is read off the list its map is formed of. -/
theorem configureRefusedOrHeld : Obligations.ConfigureRefusedOrHeld := by
  intro s r rest h
  refine ⟨fun reading => ?_, fun read configured => ?_, fun read unset bad => ?_, fun read unset good bad => ?_⟩
  · exact (exec_configure h).trans (congrArg _ (configureOwner_reading reading))
  · exact exec_configure_refused h read (decideConfigure_configured configured)
  · have failed : badStationMap r.settings ≠ 0 := fun zero => (badStationMap_eq_zero_iff _).mp zero bad
    refine ⟨_, exec_configure_refused h read (decideConfigure_badStation unset failed), ?_⟩
    simp (disch := simp) only [badStationMap, bitmapOf_getLsbD]
    refine ⟨?_, ?_, fun i hi => List.getD_eq_default _ _ hi⟩ <;> simp
  · have passed := (badStationMap_eq_zero_iff _).mpr good
    have failed : badLimitMap r.settings ≠ 0 := fun zero => (badLimitMap_eq_zero_iff _).mp zero bad
    refine ⟨_, exec_configure_refused h read (decideConfigure_badLimit unset passed failed), ?_⟩
    simp (disch := simp) only [badLimitMap, bitmapOf_getLsbD]
    refine ⟨?_, ?_, ?_, ?_, ?_, ?_, rfl, rfl, fun i hi => List.getD_eq_default _ _ hi⟩ <;> simp [or_assoc]

/-! ## CONFIGURE completed (R158) -/

theorem post_events (e : Event) (s : State) : s.port.events <+: (post e s).port.events := by
  obtain ⟨-, he⟩ | ⟨-, he⟩ := post_cases s e
  · exact ⟨[e], by rw [he, addEvent_events]⟩
  · exact ⟨[], by rw [he, List.append_nil]⟩

theorem actOnPlan_events (p : Plan) (s : State) : s.port.events <+: (actOnPlan p s).port.events := by
  have posted : s.port.events <+: (postPlan p s).port.events := post_events _ s
  unfold actOnPlan
  dsimp only
  split <;> simpa using posted

/-- An assessment posts after what has been posted. -/
theorem assess_events (source : OffSource) (off : OffTime) (carried : Nat) (s : State) :
    s.port.events <+: (assess source off carried s).port.events := by
  have acts : ∀ (p : Plan) (u : State), u.port = s.port → s.port.events <+: (actOnPlan p u).port.events :=
    fun p u same => same ▸ actOnPlan_events p u
  have posts : ∀ (p : Plan) (u : State), u.port = s.port → s.port.events <+: (postPlan p u).port.events :=
    fun p u same => same ▸ post_events _ u
  unfold assess
  dsimp only
  cases s.context.cycleState <;> dsimp only
  case noCycle => exact posts _ _ rfl
  case interrupted | stopped =>
    split
    · exact acts _ _ rfl
    · exact List.prefix_rfl
  all_goals exact List.prefix_rfl

/-- The join window leaves the port. -/
theorem acceptConfigure_port (raw : Settings) (s : State) : (acceptConfigure raw s).port
    = (assess .gauge (gaugeOffTime s.gauge.logRatio raw.clamped.halfLife) s.supply.carried
        (s.configured raw)).port := by
  rw [acceptConfigure_eq]
  dsimp only
  split <;> rfl

/-- The request has been completed in `t` with the first event posted since `s`. -/
def Completed (r : Request) (s t : State) : Prop :=
  t.port.inService = none
  ∧ ∃ result map, s.port.events ++ [.completion r.tag r.kind result r.stepByte map] <+: t.port.events

theorem Completed.completion_mem {t : State} (h : Completed r s t) :
    ∃ result map, .completion r.tag r.kind result r.stepByte map ∈ t.port.events := by
  obtain ⟨-, result, map, first⟩ := h
  exact ⟨result, map, first.subset (List.mem_append_right _ (List.mem_singleton_self _))⟩

theorem completeService_completed (result : Result) (m : BitVec 24) (h : s.port.inService = some r) :
    Completed r s (completeService result m s) := by
  rw [completeService_some result m h]
  exact ⟨rfl, result, m, List.prefix_rfl⟩

theorem acceptConfigure_completed (raw : Settings) (h : s.port.inService = some r) :
    Completed r s (acceptConfigure raw s) := by
  obtain ⟨ended, result, map, first⟩ : Completed r s (s.configured raw) := completeService_completed _ _ h
  rw [Completed, acceptConfigure_port]
  exact ⟨by simpa using ended, result, map, first.trans (assess_events ..)⟩

/-- Whatever its own tests say, a CONFIGURE in service is completed. -/
theorem decideConfigure_completed (h : s.port.inService = some r) : Completed r s (decideConfigure r s) := by
  unfold decideConfigure
  dsimp only
  (repeat' split)
  case isFalse => exact acceptConfigure_completed _ h
  all_goals exact completeService_completed _ _ h

/-! ## The end of the start-up reading (R58, R65, R66) -/

theorem exec_startupReadingEnd (n : BitVec 16) (hp : s.power = .running) (reads : s.gauge.gaugeState = .measuring) :
    exec (.startupReadingEnd n) s = .next (resumeConfigure (endReading n s)) :=
  (whenRunning_running _ hp).trans (congrArg _ (if_pos reads))

theorem endReading_count {n : BitVec 16} (h : n ≠ 65535) : endReading n s = { s with
    context := { s.context with stillStarted := true }
    gauge := { s.gauge with
      gaugeState := .charging, n0 := 0, releasedFromArmed := false, previous := none,
      chargingTime := 0, chargingTicks := 0, converting := false,
      startup := .count n.toNat, logRatio := logRatioOf s.gauge.journalN0 (.count n.toNat) } } :=
  if_neg h

theorem endReading_saturated {n : BitVec 16} (h : n = 65535) : endReading n s = { s with
    context := { s.context with stillStarted := true }
    gauge := { s.gauge with
      gaugeState := .fault, converting := false, startup := .saturated, logRatio := .unknown }
    port := postedPort (.gaugeFault .saturated) s } :=
  (if_pos h).trans (gaugeFault_eq _ _)

theorem endReading_gauge (n : BitVec 16) (s : State) :
    (endReading n s).gauge.gaugeState = (if n = 65535 then .fault else .charging)
    ∧ (endReading n s).gauge.startup = (if n = 65535 then .saturated else .count n.toNat)
    ∧ (endReading n s).gauge.logRatio = logRatioOf s.gauge.journalN0 (endReading n s).gauge.startup := by
  by_cases h : n = 65535
  · rw [endReading_saturated h, if_pos h, if_pos h]
    exact ⟨rfl, rfl, rfl⟩
  · rw [endReading_count h, if_neg h, if_neg h]
    exact ⟨rfl, rfl, rfl⟩

theorem endReading_stillStarted (n : BitVec 16) (s : State) : (endReading n s).context.stillStarted = true := by
  by_cases h : n = 65535
  · rw [endReading_saturated h]
  · rw [endReading_count h]

theorem resumeConfigure_none (h : s.port.inService = none) : resumeConfigure s = s := by
  rw [resumeConfigure, h]

theorem resumeConfigure_some (h : s.port.inService = some r) : resumeConfigure s = decideConfigure r s := by
  rw [resumeConfigure, h]

/-- Settles O42: the reading's end comes first, and a CONFIGURE held in service keeps what it leaves of the gauge. -/
theorem startUpReadingEnds : Obligations.StartUpReadingEnds := by
  intro s n hp reads
  refine ⟨fun r held => ?_, fun free count => ?_, fun free saturated => ?_⟩
  · have held' : (endReading n s).port.inService = some r := by simpa using held
    obtain ⟨state, startup, ratio⟩ := endReading_gauge n s
    have completed := decideConfigure_completed held'
    refine ⟨decideConfigure r (endReading n s), ?_, ?_, completed.1, ?_, ?_, ?_, completed.completion_mem⟩
    · rw [exec_startupReadingEnd n hp reads, resumeConfigure_some held']
    · simpa using endReading_stillStarted n s
    · simpa using state
    · simpa using startup
    · simpa using ratio
  · have free' : (endReading n s).port.inService = none := by simpa using free
    rw [exec_startupReadingEnd n hp reads, resumeConfigure_none free', endReading_count count]
  · have free' : (endReading n s).port.inService = none := by simpa using free
    rw [exec_startupReadingEnd n hp reads, resumeConfigure_none free', endReading_saturated saturated]

end Sys2Proof.Machine
end

section
/-! CONFIGURE accepted: the clamped settings and their bitmap, the gauge off-time, the assessment and the join window
(R68, R81, R102, R158). -/

namespace Sys2Proof.Machine

variable {s : State} {r : Request} {rest : List Request}

/-! ## The clamped settings (R158) -/

/-- The eleven timing and tuning settings at the nearer end of their ranges, in the words of the statements. -/
theorem clamped_eq (raw : Settings) : raw.clamped = { raw with
    halfLife := max 30 (min raw.halfLife 1800)
    reheatFactor := min raw.reheatFactor 16
    reheatCap := min raw.reheatCap 3600
    creaseTime := max 60 (min raw.creaseTime 1800)
    reliefTime := max 30 (min raw.reliefTime 600)
    journalInterval := max 10 (min raw.journalInterval 120)
    staleLimit := max 5 (min raw.staleLimit 120)
    spacing := max 1 (min raw.spacing 10)
    rampInterval := max 2 (min raw.rampInterval 30)
    heatPeriod := max 4 (min raw.heatPeriod 60)
    soloCap := min raw.soloCap 4 } := by
  simp [Settings.clamped, clamp, min_comm]

/-- The bitmap of R158 names exactly the settings that clamping moved. -/
theorem clampedMap_getLsbD_iff (raw : Settings) (i : Nat) : (clampedMap raw).getLsbD i = true ↔
    (i = 8 ∧ raw.clamped.halfLife ≠ raw.halfLife) ∨ (i = 9 ∧ raw.clamped.reheatFactor ≠ raw.reheatFactor)
    ∨ (i = 10 ∧ raw.clamped.reheatCap ≠ raw.reheatCap) ∨ (i = 11 ∧ raw.clamped.creaseTime ≠ raw.creaseTime)
    ∨ (i = 12 ∧ raw.clamped.reliefTime ≠ raw.reliefTime)
    ∨ (i = 13 ∧ raw.clamped.journalInterval ≠ raw.journalInterval)
    ∨ (i = 14 ∧ raw.clamped.staleLimit ≠ raw.staleLimit) ∨ (i = 15 ∧ raw.clamped.spacing ≠ raw.spacing)
    ∨ (i = 16 ∧ raw.clamped.rampInterval ≠ raw.rampInterval) ∨ (i = 17 ∧ raw.clamped.heatPeriod ≠ raw.heatPeriod)
    ∨ (i = 18 ∧ raw.clamped.soloCap ≠ raw.soloCap) := by
  rw [clampedMap, bitmapOf_getLsbD (by simp)]
  generalize raw.clamped = d
  by_cases named : i < 19
  · interval_cases i <;> simp
  · rw [List.getD_eq_default _ _ (by simpa using named)]
    simp only [Bool.false_eq_true, false_iff]
    omega

/-! ## Frames, one after the other -/

theorem Block.same_trans {b : Block} {s t u : State} (h : b.Same s t) (h' : b.Same t u) : b.Same s u := by
  cases b <;> exact Eq.trans h' h

theorem KeepsAllBut.trans {l l' : List Block} {s t u : State} (h : KeepsAllBut l s t) (h' : KeepsAllBut l' t u) :
    KeepsAllBut (l ++ l') s u := fun b hb =>
  Block.same_trans (h b fun first => hb (List.mem_append_left _ first))
    (h' b fun second => hb (List.mem_append_right _ second))

theorem KeepsAllBut.mono {l l' : List Block} {s t : State} (h : KeepsAllBut l s t) (sub : l ⊆ l') :
    KeepsAllBut l' s t :=
  fun b hb => h b (mt (@sub b) hb)

/-! ## The stages of the acceptance (R158) -/

/-- The part configured and its off-time assessed, with the carried off-time put back to 0 (R158). -/
def State.assessed (raw : Settings) (s : State) : State :=
  { assess .gauge (gaugeOffTime s.gauge.logRatio raw.clamped.halfLife) s.supply.carried (s.configured raw) with
    supply := { s.supply with carried := 0 } }

/-- The part configured by the request taken, whose completion is the only event posted. -/
def State.configuredBy (raw : Settings) (r : Request) (rest : List Request) (s : State) : State :=
  { s with
    settings := some raw.clamped
    assessor := { s.assessor with gaugeOff := some (gaugeOffTime s.gauge.logRatio raw.clamped.halfLife) }
    journal := { s.journal with intervalRunning := true, intervalTicks := 0 }
    port := answered r rest (if raw.clamped = raw then .done else .clamped) (clampedMap raw) s.port }

theorem configured_serving (raw : Settings) (free : s.port.inService = none) :
    (s.serving r rest).configured raw = s.configuredBy raw r rest := by
  rw [State.configured, completeService_served (s := s) (rest := rest)]
  case hf => exact free
  case port => rfl
  simp only [clampedMap_eq_zero_iff]
  rfl

theorem assessed_serving (raw : Settings) (free : s.port.inService = none) :
    (s.serving r rest).assessed raw =
      { assess .gauge (gaugeOffTime s.gauge.logRatio raw.clamped.halfLife) s.supply.carried
          (s.configuredBy raw r rest) with
        supply := { s.supply with carried := 0 } } := by
  rw [State.assessed, configured_serving raw free]
  rfl

theorem acceptConfigure_assessed (raw : Settings) (s : State) :
    acceptConfigure raw s
      = if s.supply.supplyState = .onMains then beginJoin (s.assessed raw) else s.assessed raw := by
  simp [acceptConfigure_eq, State.assessed, State.configured]

theorem acceptConfigure_onMains (raw : Settings) (mains : s.supply.supplyState = .onMains) :
    acceptConfigure raw s = beginJoin (s.assessed raw) :=
  (acceptConfigure_assessed raw s).trans (if_pos mains)

theorem acceptConfigure_starting (raw : Settings) (settling : s.supply.supplyState ≠ .onMains) :
    acceptConfigure raw s = s.assessed raw :=
  (acceptConfigure_assessed raw s).trans (if_neg settling)

/-- The join window touches the line and the view alone (R102). -/
theorem beginJoin_keeps (s : State) : KeepsAllBut [.line, .view] s (beginJoin s) := by
  intro b hb
  cases b <;> simp_all [Block.Same]

theorem acceptConfigure_keeps (raw : Settings) (s : State) :
    KeepsAllBut [.line, .view] (s.assessed raw) (acceptConfigure raw s) := by
  rw [acceptConfigure_assessed]
  split
  · exact beginJoin_keeps _
  · exact fun b _ => by cases b <;> rfl

theorem serving_keeps (r : Request) (rest : List Request) (s : State) : KeepsAllBut [.port] s (s.serving r rest) := by
  intro b hb
  cases b <;> simp_all [Block.Same, State.serving]

theorem assessed_keeps (raw : Settings) (s : State) :
    KeepsAllBut [.settings, .assessor, .journal, .port, .supply, .context, .exchange] s (s.assessed raw) := by
  intro b hb
  cases b <;> simp_all [Block.Same, State.assessed, State.configured]

/-! ## The assessment in NO_CYCLE (R81) -/

/-- ESTIMATED, in the words of the statements (R73). -/
theorem estimatedFlag_eq (off : OffTime) (s : State) : estimatedFlag off s = estimatedBy off s := by
  have marked : off.estimated = decide (off = .over ∨ off = .unknown) := by
    cases off <;> simp [OffTime.estimated]
  rw [estimatedFlag, marked]
  rfl

theorem OffTime.gaugeFlag_eq (off : OffTime) : off.gaugeFlag = decide (off = .unknown) := by
  cases off <;> simp [OffTime.gaugeFlag]

theorem assess_noCycle (source : OffSource) (off : OffTime) (carried : Nat) (hc : s.context.cycleState = .noCycle) :
    assess source off carried s = { s with
      assessor := { s.assessor with stage := .provisional }
      port := postedPort (.plan (reportOf (noCyclePlan source off (estimatedBy off s)) s.context)) s } := by
  simp only [assess, hc, estimatedFlag_eq]
  exact post_eq _ _

/-! ## The statement -/

theorem gaugeOffTime_eq (l : LogRatio) (halfLife : Nat) : gaugeOffTime l halfLife = match l with
    | .ratio n => .seconds (n * halfLife / 256)
    | .over => .over
    | .unknown => .unknown
    | .noneYet => .unknown := by
  cases l <;> rfl

/-- A CONFIGURE that passes all its own tests, after the reading, is accepted (R69, R157). -/
theorem exec_configure_accepted (h : Served .configure s r rest)
    (read : ¬ (s.gauge.gaugeState = .idle ∨ s.gauge.gaugeState = .measuring)) (unset : s.settings = none)
    (station : badStationMap r.settings = 0) (limit : badLimitMap r.settings = 0) :
    exec .configure s = .next (acceptConfigure r.settings (s.serving r rest)) := by
  rw [exec_configure h, configureOwner_read (s := s.serving r rest) read,
    decideConfigure_accepts (s := s.serving r rest) unset station limit]

/-- What the acceptance leaves in every cycle state, before the join window. -/
theorem assessed_serving_effect (raw : Settings) (free : s.port.inService = none) :
    let t := (s.serving r rest).assessed raw
    t.settings = some raw.clamped
    ∧ t.assessor.gaugeOff = some (gaugeOffTime s.gauge.logRatio raw.clamped.halfLife)
    ∧ t.journal.intervalRunning = true ∧ t.journal.intervalTicks = 0
    ∧ (s.configuredBy raw r rest).port.events <+: t.port.events
    ∧ t.supply = { s.supply with carried := 0 } := by
  have posted := assess_events .gauge (gaugeOffTime s.gauge.logRatio raw.clamped.halfLife) s.supply.carried
    (s.configuredBy raw r rest)
  simp only [assessed_serving raw free, assess_frame]
  exact ⟨rfl, rfl, rfl, rfl, posted, trivial⟩

/-- In NO_CYCLE the assessment is the PLAN of no action (R81). -/
theorem assessed_serving_noCycle (raw : Settings) (free : s.port.inService = none)
    (hc : s.context.cycleState = .noCycle) :
    let t := (s.serving r rest).assessed raw
    let off := gaugeOffTime s.gauge.logRatio raw.clamped.halfLife
    t.context = s.context ∧ t.exchange = s.exchange
    ∧ t.journal = { s.journal with intervalRunning := true, intervalTicks := 0 }
    ∧ t.port = postedPort (.plan (reportOf (noCyclePlan .gauge off (estimatedBy off s)) s.context))
        { s with port := (s.configuredBy raw r rest).port } := by
  have plan := assess_noCycle (s := s.configuredBy raw r rest) .gauge
    (gaugeOffTime s.gauge.logRatio raw.clamped.halfLife) s.supply.carried hc
  simp only [assessed_serving raw free, plan]
  exact ⟨rfl, rfl, rfl, rfl⟩

/-- Settles O23: what the assessed part holds beside the line and the view stands through the join window. That the
estimate mark of the scan enters ESTIMATED of the plan of no action is log entry 17, and the off-time UNKNOWN without
a log-ratio log entry 24. -/
theorem configureAccepted : Obligations.ConfigureAccepted := by
  intro s r rest h unset notIdle notMeasuring raw station bankLow bankHigh air heater feederLow feederHigh ductLow
    ductHigh feederFits ductFits c off
  have hc : c = raw.clamped := (clamped_eq raw).symm
  have hoff : off = gaugeOffTime s.gauge.logRatio c.halfLife := (gaugeOffTime_eq _ _).symm
  clear_value off c
  subst hoff hc
  have accepted := exec_configure_accepted h (not_or.mpr ⟨notIdle, notMeasuring⟩) unset
    ((badStationMap_eq_zero_iff raw).mpr (by omega)) ((badLimitMap_eq_zero_iff raw).mpr (by omega))
  have same := acceptConfigure_keeps raw (s.serving r rest)
  have port := same .port (by decide)
  have journal := same .journal (by decide)
  obtain ⟨settings, gaugeOff, running, ticks, posted, supply⟩ :=
    assessed_serving_effect (r := r) (rest := rest) raw h.free
  refine ⟨clampedMap raw, acceptConfigure raw (s.serving r rest), accepted,
    clampedMap_getLsbD_iff raw, (same .settings (by decide)).trans settings,
    (congrArg _ (same .assessor (by decide))).trans gaugeOff, (congrArg _ journal).trans running,
    (congrArg _ journal).trans ticks, ?events, (same .supply (by decide)).trans supply, fun mains => ?joins,
    fun settling => ?rests, fun noCycle => ?plan, ?frame⟩
  case events =>
    obtain ⟨more, later⟩ := posted
    exact ⟨more, (congrArg Port.events port).trans later.symm⟩
  case joins =>
    rw [acceptConfigure_onMains (s := s.serving r rest) raw mains]
    have mark : ((s.serving r rest).assessed raw).line.duplicateMark = s.line.duplicateMark :=
      congrArg Line.duplicateMark (assessed_keeps raw (s.serving r rest) .line (by decide))
    exact ⟨rfl, rfl, rfl, rfl, rfl, rfl, rfl, mark, rfl⟩
  case rests =>
    rw [acceptConfigure_starting (s := s.serving r rest) raw settling]
    exact ⟨assessed_keeps raw (s.serving r rest) .line (by decide),
      assessed_keeps raw (s.serving r rest) .view (by decide)⟩
  case plan =>
    obtain ⟨context, exchange, interval, report⟩ :=
      assessed_serving_noCycle (r := r) (rest := rest) raw h.free noCycle
    refine ⟨(same .context (by decide)).trans context, (same .exchange (by decide)).trans exchange,
      journal.trans interval, port.trans (report.trans ?_)⟩
    rw [noCyclePlan, OffTime.gaugeFlag_eq]
    rfl
  case frame =>
    exact (((serving_keeps r rest s).trans (assessed_keeps raw _)).trans same).mono (by decide)

end Sys2Proof.Machine
end

section
/-! The plan table in the words of the statements, and the plan an assessment forms from it (R73 to R79). -/

namespace Sys2Proof.Machine

/-! ## The table's rows (R74, R75, R78) -/

theorem tableRow_base {c : Settings} {p : Progress} {still : Nat} {row : PlanRow}
    (h : tableRow c p still = some row) : row.base = row.action.base := by
  have base := lastRow_base c p still
  rwa [lastRow, h] at base

/-- The table's row, in the words of the statements; none is the FINISH row on both sides. -/
theorem planRow_eq (c : Settings) (p : Progress) (still : Nat) :
    planRow c p still = (tableRow c p still).map fun row => (row.action, row.figures) := by
  unfold planRow tableRow
  cases p.phase
  case heat => rfl
  case cool =>
    dsimp only [coolRow]
    by_cases crease : still ≤ c.creaseTime <;> by_cases past : still < p.remaining <;>
      simp [crease, past, PlanRow.figures]
  case guarding =>
    dsimp only [guardRow]
    by_cases past : p.remaining ≤ still <;> by_cases crease : still ≤ c.creaseTime <;>
      simp [crease, past, PlanRow.figures]

theorem tableRow_heat {p : Progress} (c : Settings) (still : Nat) (h : p.phase = .heat) :
    tableRow c p still = some
      { action := .resumeHeat, base := 8, heat := some (min (p.remaining + reheat c still) 65535),
        cool := some p.cool, guardFig := some p.guardLen } := by
  rw [tableRow, h]
  rfl

/-- Outside HEAT the table's row has no heat figure. -/
theorem tableRow_no_heat {c : Settings} {p : Progress} {still : Nat} {row : PlanRow} (h : p.phase ≠ .heat)
    (hrow : tableRow c p still = some row) : row.heat = none := by
  unfold tableRow at hrow
  cases hp : p.phase <;> simp only [hp] at hrow
  case heat => exact absurd hp h
  all_goals
    (repeat' split at hrow) <;> cases hrow <;> rfl

/-- Outside HEAT the table reads neither the reheat factor nor the reheat cap. -/
theorem tableRow_without_reheat {p : Progress} (c : Settings) (still factor cap : Nat) (h : p.phase ≠ .heat) :
    tableRow { c with reheatFactor := factor, reheatCap := cap } p still = tableRow c p still := by
  unfold tableRow
  cases hp : p.phase
  case heat => exact absurd hp h
  all_goals rfl

/-! ## The plan of a row (R73, R77, R79) -/

variable {s : State} {p : Progress} {row : PlanRow} {source : OffSource} {off : OffTime} {estimated : Bool}

/-- An action held by the first of STOPPED, STALE and DOOR that applies (R77). -/
def State.heldAction (a : RunAction) (s : State) : PlanAction :=
  if s.context.cycleState = .stopped then .hold a .stopped
  else if s.context.stale then .hold a .stale
  else if s.permits.doorOpen then .hold a .door
  else .run a

/-- A provisional plan of an open cycle, with S and AGED as the context has them (R73, R79). -/
def State.provisionalPlan (source : OffSource) (off : OffTime) (estimated : Bool) (action : PlanAction)
    (extension : Option Nat) (figures : Figures) (base : Option Nat) (s : State) : Plan where
  action := action
  source := source
  offTime := off
  still := some s.context.still
  reheat := extension
  figures := figures
  aged := s.context.aged
  estimated := estimated
  gaugeFlag := decide (off = .unknown)
  base := base
  stage := .provisional

theorem heldAction_ne_finish (a : RunAction) (s : State) : s.heldAction a ≠ .finish := by
  unfold State.heldAction
  (repeat' split) <;> nofun

theorem makePlan_row (h : tableRow (cfg s) p s.context.still = some row) :
    makePlan s source off estimated p = s.provisionalPlan source off estimated (s.heldAction row.action)
      (some (reheat (cfg s) s.context.still)) row.figures (some row.base) := by
  simp only [makePlan, planRow_eq, h, Option.map_some, tableRow_base h, OffTime.gaugeFlag_eq,
    State.provisionalPlan, State.heldAction, holdReason]
  congr 1
  (repeat' split) <;> simp_all

theorem makePlan_finish (h : tableRow (cfg s) p s.context.still = none) :
    makePlan s source off estimated p
      = s.provisionalPlan source off estimated .finish none Figures.absent none := by
  simp only [makePlan, planRow_eq, h, Option.map_none, OffTime.gaugeFlag_eq, State.provisionalPlan]

theorem makePlan_reheat (s : State) (source : OffSource) (off : OffTime) (estimated : Bool) (p : Progress) :
    (makePlan s source off estimated p).reheat
      = (tableRow (cfg s) p s.context.still).map fun _ => reheat (cfg s) s.context.still := by
  cases h : tableRow (cfg s) p s.context.still with
  | none => rw [makePlan_finish h]; rfl
  | some row => rw [makePlan_row h]; rfl

theorem makePlan_figures (s : State) (source : OffSource) (off : OffTime) (estimated : Bool) (p : Progress) :
    (makePlan s source off estimated p).figures
      = ((tableRow (cfg s) p s.context.still).map PlanRow.figures).getD Figures.absent := by
  cases h : tableRow (cfg s) p s.context.still with
  | none => rw [makePlan_finish h]; rfl
  | some row => rw [makePlan_row h]; rfl

/-! ## The reheat extension (R74) -/

theorem reheat_le_cap (c : Settings) (still : Nat) : reheat c still ≤ c.reheatCap := Nat.min_le_right ..

theorem reheat_eq_zero {c : Settings} (still : Nat) (h : c.reheatFactor = 0 ∨ c.reheatCap = 0) :
    reheat c still = 0 := by
  obtain none_added | none_allowed := h
  · simp [reheat, none_added]
  · simp [reheat, none_allowed]

/-- Outside HEAT a plan's figures do not depend on the reheat factor and cap in force. -/
theorem makePlan_figures_without_reheat {c : Settings} (factor cap : Nat) (set : s.settings = some c)
    (h : p.phase ≠ .heat) :
    (makePlan { s with settings := some { c with reheatFactor := factor, reheatCap := cap } } source off estimated
      p).figures = (makePlan s source off estimated p).figures := by
  have inForce : cfg s = c := by simp [cfg, set]
  rw [makePlan_figures, makePlan_figures, inForce, ← tableRow_without_reheat c _ factor cap h]
  rfl

/-- Settles O45: a plan that carries an extension is one of a row, and of the rows HEAT's alone reads it. -/
theorem reheatExtendsTheHeatFigure : Obligations.ReheatExtendsTheHeatFigure := by
  intro s source off estimated p rx still factor carried
  have product : s.context.still * (cfg s).reheatFactor ≤ 65535 * 16 := Nat.mul_le_mul still factor
  rw [makePlan_reheat] at carried
  obtain ⟨row, hrow, rfl⟩ := Option.map_eq_some_iff.mp carried
  have figures : (makePlan s source off estimated p).figures = row.figures := by
    simp [makePlan_figures, hrow]
  refine ⟨rfl, product, by omega, reheat_le_cap _ _, reheat_eq_zero _, fun heat => ?_, fun other => ⟨?_, ?_⟩⟩
  · rw [tableRow_heat _ _ heat] at hrow
    cases hrow
    rw [figures]
    rfl
  · exact (congrArg _ figures).trans (tableRow_no_heat other hrow)
  · rintro t c set rfl
    exact makePlan_figures_without_reheat 0 0 set other

end Sys2Proof.Machine
end

section
/-! The assessment of an INTERRUPTED or STOPPED cycle, at an accepted CONFIGURE and at the warm return (R72 to R80). -/

namespace Sys2Proof.Machine

variable {s t u : State} {c : Settings} {p : Progress} {source : OffSource} {off : OffTime} {carried : Nat}
  {port : Port}

/-! ## A plan posted and acted on (R80) -/

theorem postPlan_eq (plan : Plan) (hp : s.context.progress = some p) :
    postPlan plan s = { s with port := postedPort (.plan (planReport plan s.context p)) s } := by
  have report : reportOf plan s.context = planReport plan s.context p := by
    simp only [reportOf, planReport, hp, Option.map_some, Option.getD_some] <;> rfl
  rw [postPlan, report, post_eq]

/-- A plan other than FINISH becomes the current plan, awaited in INTERRUPTED alone. -/
theorem actOnPlan_stands {plan : Plan} (hp : s.context.progress = some p) (h : plan.action ≠ .finish) :
    actOnPlan plan s = { s with
      context := { s.context with plan := some plan }
      assessor := { s.assessor with awaiting := decide (s.context.cycleState = .interrupted) }
      port := postedPort (.plan (planReport plan s.context p)) s } := by
  rw [actOnPlan, postPlan_eq plan hp, if_neg h]
  rfl

/-- A FINISH is posted, then the plan of the CLOSE record alone, and the cycle is closed. -/
theorem actOnPlan_finish {plan : Plan} (hn : s.exchange.newest? = none) (hp : s.context.progress = some p)
    (h : plan.action = .finish) :
    actOnPlan plan s = { s with
      context := closedContext s.context
      exchange := s.exchange.mapBuffers Buffer.emptied
      assessor := { s.assessor with awaiting := false, stage := .provisional, estimateMark := false }
      journal := queuedJournal
        (recordOf .closed (.close .finished) { s.context with plan := some plan } p s.gauge) s
      port := postedPort (.plan (planReport plan s.context p)) s } := by
  rw [actOnPlan, postPlan_eq plan hp, if_pos h, writeRecord_of_no_newest (p := p)]
  case hn => exact hn
  case hp => exact hp
  rfl

/-! ## The assessment (R72, R73) -/

/-- The part whose S has taken an off-time, before its plan is made. -/
def State.offTimeAdded (off : OffTime) (carried : Nat) (s : State) : State :=
  { s with
    assessor := { s.assessor with stage := .provisional }
    context := { s.context with still := off.addTo carried s.context.still } }

theorem assess_open (source : OffSource) (off : OffTime) (carried : Nat) (hp : s.context.progress = some p)
    (hc : s.context.cycleState = .interrupted ∨ s.context.cycleState = .stopped) :
    assess source off carried s
      = actOnPlan (makePlan (s.offTimeAdded off carried) source off (estimatedBy off s) p)
          (s.offTimeAdded off carried) := by
  obtain hc | hc := hc <;> simp only [assess, State.offTimeAdded, hc, hp, estimatedFlag_eq]

/-- What the assessment does, for the part it is made in. -/
theorem assess_assessed (source : OffSource) (off : OffTime) (carried : Nat) (set : s.settings = some c)
    (hn : s.exchange.newest? = none) (hp : s.context.progress = some p)
    (hc : s.context.cycleState = .interrupted ∨ s.context.cycleState = .stopped) :
    Assessed c source off carried p s.port s (assess source off carried s) := by
  have inForce : cfg (s.offTimeAdded off carried) = c := by simp [cfg, State.offTimeAdded, set]
  rw [assess_open source off carried hp hc]
  unfold Assessed
  intro still after planOf finish
  have taken : still = (s.offTimeAdded off carried).context.still := by cases off <;> rfl
  clear_value still
  subst taken
  refine ⟨fun row hrow => ?_, fun hrow => ?_⟩
  · rw [makePlan_row (inForce ▸ hrow), inForce, actOnPlan_stands (p := p)]
    case hp => exact hp
    case h => exact heldAction_ne_finish _ _
    exact ⟨rfl, rfl, rfl, rfl, rfl, rfl, rfl⟩
  · rw [makePlan_finish (inForce ▸ hrow), actOnPlan_finish (p := p)]
    case hn => exact hn
    case hp => exact hp
    case h => rfl
    exact ⟨rfl, rfl, rfl, rfl, rfl, rfl, rfl⟩

/-! ## The occasion's own steps beside the assessment -/

/-- What the occasion does after the assessment to the supply, the line and the view does not show in it. -/
theorem Assessed.of_keeps (h : Assessed c source off carried p port s t)
    (same : KeepsAllBut [.supply, .line, .view] t u) : Assessed c source off carried p port s u := by
  have context : u.context = t.context := same .context (by decide)
  have assessor : u.assessor = t.assessor := same .assessor (by decide)
  have exchange : u.exchange = t.exchange := same .exchange (by decide)
  have journal : u.journal = t.journal := same .journal (by decide)
  have gauge : u.gauge = t.gauge := same .gauge (by decide)
  have events : u.port = t.port := same .port (by decide)
  unfold Assessed
  rw [context, assessor, exchange, journal, gauge, events]
  exact h

/-- What an assessment reads of the part, beside the settings and the gauge, is in `u` as in `s`; the port, the
journal interval and the supply state may differ, but neither is DORMANT. -/
structure AssessesAlike (s u : State) : Prop where
  context : u.context = s.context
  assessor : u.assessor.estimateMark = s.assessor.estimateMark
  permits : u.permits = s.permits
  admission : u.admission = s.admission
  exchange : u.exchange = s.exchange
  journal : u.journal = { s.journal with
    intervalRunning := u.journal.intervalRunning, intervalTicks := u.journal.intervalTicks }
  powered : u.supply.supplyState ≠ .dormant ∧ s.supply.supplyState ≠ .dormant

/-- A record queued leaves the interval as it is and does not read it. -/
theorem AssessesAlike.queuedJournal_eq (h : AssessesAlike s u) (body : Snapshot) (running : Bool) (ticks : Nat) :
    { queuedJournal body u with intervalRunning := running, intervalTicks := ticks }
      = { queuedJournal body s with intervalRunning := running, intervalTicks := ticks } := by
  obtain ⟨before, now⟩ := h.powered
  simp only [queuedJournal, before, now, ne_eq, not_false_eq_true, and_true]
  rw [h.journal]
  dsimp only
  split <;> rfl

/-- An assessment made after the occasion's first steps, told from the part before them. -/
theorem Assessed.of_alike (alike : AssessesAlike s u) (h : Assessed c source off carried p port u t) :
    Assessed c source off carried p port s t := by
  have posted : ∀ e, postedPort e { u with port := port } = postedPort e { s with port := port } := fun e =>
    postedPort_congr e rfl (congrArg _ alike.admission) (congrArg _ alike.admission)
  have estimated : estimatedBy off u = estimatedBy off s := by
    rw [estimatedBy, alike.assessor, alike.context]
    rfl
  unfold Assessed at h ⊢
  simp only [posted] at h
  simp only [estimated, alike.context, alike.permits, alike.exchange, alike.assessor, alike.queuedJournal_eq] at h
  refine ⟨fun row hrow => ?_, h.2⟩
  obtain ⟨context, awaiting, mark, stage, exchange, journal, report⟩ := h.1 row hrow
  refine ⟨context, awaiting, mark, stage, exchange, ?_, report⟩
  rw [journal, alike.journal]

/-! ## The two occasions (R47, R158) -/

variable {r : Request} {rest : List Request}

theorem configuredBy_alike (raw : Settings) (h : Served .configure s r rest) :
    AssessesAlike s (s.configuredBy raw r rest) where
  context := rfl
  assessor := rfl
  permits := rfl
  admission := rfl
  exchange := rfl
  journal := rfl
  powered := by
    obtain mains | mains := h.mains <;> simp [State.configuredBy, mains]

/-- The carried off-time returns to 0 and the join window begins after the assessment. -/
theorem acceptConfigure_keeps_assessment (raw : Settings) (free : s.port.inService = none) :
    KeepsAllBut [.supply, .line, .view]
      (assess .gauge (gaugeOffTime s.gauge.logRatio raw.clamped.halfLife) s.supply.carried
        (s.configuredBy raw r rest))
      (acceptConfigure raw (s.serving r rest)) := by
  have joins := acceptConfigure_keeps raw (s.serving r rest)
  rw [assessed_serving raw free] at joins
  refine KeepsAllBut.trans (l := [.supply]) (fun b hb => ?_) joins
  cases b <;> simp_all [Block.Same]

theorem backOnMains_settings (s : State) : s.backOnMains.settings = s.settings := by
  unfold State.backOnMains
  dsimp only
  split <;> simp

theorem backOnMains_port (s : State) :
    s.backOnMains.port = postedPort (.mainsBack s.supply.lossReading) s := by
  have posted : (post (.mainsBack s.supply.lossReading)
      (enterOnMains { s with supply := { s.supply with lossRunning := false } })).port
        = postedPort (.mainsBack s.supply.lossReading) s := by
    rw [post_eq]
    exact postedPort_congr _ rfl rfl rfl
  unfold State.backOnMains
  dsimp only
  split <;> exact posted

theorem backOnMains_alike (returning : s.supply.supplyState = .returning) :
    AssessesAlike { s with context := { s.context with stillStarted := true } } s.backOnMains := by
  unfold State.backOnMains
  dsimp only
  split <;> constructor <;> simp [returning]

theorem exec_warmReturn (hp : s.power = .running) (returning : s.supply.supplyState = .returning)
    (settled : 50 ≤ s.supply.settle) (set : s.settings ≠ none) :
    exec .warmReturn s = .next (assess .timer (.seconds s.supply.lossReading) 0 s.backOnMains) := by
  refine (whenRunning_running _ hp).trans (congrArg _ ?_)
  rw [confirmReturn_eq, if_pos ⟨returning, settled⟩]
  exact if_pos (by rwa [backOnMains_settings])

/-- Settles O24: on both occasions the assessment is made in a part that differs from `s` only in what an assessment
does not read, and what follows it does not show in it. -/
theorem assessmentsOfAnOpenCycle : Obligations.AssessmentsOfAnOpenCycle := by
  intro s p hp hx hc
  have none_newest : s.exchange.newest? = none := hx.no_newest (by obtain hc | hc := hc <;> simp [hc])
  refine ⟨fun r rest c h unset notIdle notMeasuring station limit clamped => ?_,
    fun c running returning settled set => ?_⟩
  · subst clamped
    have accepted := exec_configure_accepted h (not_or.mpr ⟨notIdle, notMeasuring⟩) unset station limit
    have assessed := assess_assessed (s := s.configuredBy r.settings r rest) .gauge
      (gaugeOffTime s.gauge.logRatio r.settings.clamped.halfLife) s.supply.carried rfl none_newest hp hc
    exact ⟨_, _, _, accepted, .of_alike (configuredBy_alike _ h)
      (assessed.of_keeps (acceptConfigure_keeps_assessment _ h.free))⟩
  · have alike := backOnMains_alike returning
    have assessed := assess_assessed (c := c) (p := p) .timer (.seconds s.supply.lossReading) 0
      ((backOnMains_settings s).trans set) (by rwa [alike.exchange]) (by rwa [alike.context])
      (by rwa [alike.context])
    rw [backOnMains_port] at assessed
    exact ⟨_, exec_warmReturn running returning settled (by simp [set]), .of_alike alike assessed⟩

end Sys2Proof.Machine
end

section
/-! The line and the view over every step (R90, R91, R95, R99, R100, R105 to R107): what each operation of the line
keeps of them. -/

namespace Sys2Proof.Machine

/-! ## The receiver (R90, R91, R95) -/

namespace Receiver.Sound

variable {r : Receiver}

theorem initial : Receiver.initial.Sound := ⟨by decide, by decide, nofun, by decide⟩

theorem bitSample {bits : List Bool} (level : Bool) (h : r.Sound) (hc : r.character = some bits) :
    (r.bitSample bits level).Sound := by
  obtain ⟨few, short⟩ := h.underWay bits hc
  unfold Receiver.bitSample
  split
  · rename_i more
    simp only [Config.dataBits] at more
    refine ⟨?_, h.gathered, ?_, h.held⟩
    · dsimp only [Config.idleLimit]
      split <;> omega
    · rintro _ ⟨rfl⟩
      exact ⟨few, by simp; omega⟩
  · exact ⟨by simp, by simpa using few, nofun, h.held⟩

theorem edge (h : r.Sound) (hc : r.character = none) : r.edge.Sound := by
  unfold Receiver.edge
  (repeat' split)
  · rename_i few
    refine ⟨Nat.zero_le _, h.gathered, ?_, h.held⟩
    rintro _ ⟨rfl⟩
    exact ⟨few, Nat.zero_le _⟩
  all_goals exact ⟨Nat.zero_le _, h.gathered, fun bits hb => by simp [hc] at hb, h.held⟩

theorem quiet (h : r.Sound) (hc : r.character = none) : r.quiet.1.Sound := by
  have idle : min 12 (r.idleCount + 1) ≤ 12 := Nat.min_le_left ..
  have held : (if min 12 (r.idleCount + 1) = 12 then 0 else r.heldTicks) ≤ 10 := by
    have before := h.held
    split <;> omega
  unfold Receiver.quiet
  dsimp only [Config.idleLimit]
  split
  · exact ⟨idle, Nat.zero_le _, fun bits hb => by simp [hc] at hb, held⟩
  · exact ⟨idle, h.gathered, fun bits hb => by simp [hc] at hb, held⟩

theorem sample (level : Bool) (h : r.Sound) : (r.sample level).1.Sound := by
  obtain ⟨bits, hc, he⟩ | ⟨hc, -, he⟩ | ⟨hc, -, he⟩ := sample_cases level r <;> rw [he]
  · exact h.bitSample level hc
  · exact h.quiet hc
  · exact h.edge hc

theorem run (levels : List Bool) (h : r.Sound) : (r.run levels).1.Sound := by
  induction levels generalizing r with
  | nil => exact h
  | cons level rest ih => exact ih (h.sample level)

end Receiver.Sound

/-! ## The frames queued and under attempt (R95, R99, R100, R105) -/

/-- What `LineSound` says of the transmit queue, the attempt and the failure count of a line. -/
structure Line.FramesSound (l : Line) : Prop where
  offQueue : l.mode = .off → l.queue.length ≤ 1 ∧ ∀ f ∈ l.queue, f.leaving = true
  queueFour : l.queue.length ≤ 4
  attemptHead : ∀ a, l.attempt = some a → l.queue.head? = some a.frame
  heldClaim : ∀ a, l.attempt = some a → a.heldWithdrawn ≠ none → a.frame.kind = .claim
  failuresEight : l.failures ≤ 8

/-- What `LineSound` says of the view. -/
structure ViewSound (s : State) : Prop where
  off : s.line.mode = .off → s.view = []
  rising : s.view.Pairwise (fun e f => e.number < f.number)
  entries : ∀ e ∈ s.view, e.Sound (cfg s).station

theorem lineSound_iff {s : State} : LineSound s ↔
    (s.line.mode ≠ .off → s.supply.supplyState = .onMains ∧ s.settings.isSome = true)
    ∧ s.line.FramesSound ∧ ViewSound s ∧ s.line.receiver.Sound :=
  ⟨fun h => ⟨h.onMains, ⟨h.offQueue, h.queueFour, h.attemptHead, h.heldClaim, h.failuresEight⟩,
      ⟨h.offView, h.viewRising, h.viewEntries⟩, h.receiver⟩,
    fun ⟨mains, frames, view, receiver⟩ => ⟨mains, view.off, frames.offQueue, frames.queueFour, frames.attemptHead,
      frames.heldClaim, frames.failuresEight, view.rising, view.entries, receiver⟩⟩

theorem replaceLast_length {f : QueuedFrame} {l l' : List QueuedFrame} (h : replaceLast f l = some l') :
    l'.length = l.length := by
  induction l generalizing l' with
  | nil => cases h
  | cons g rest ih =>
    unfold replaceLast at h
    split at h
    · rename_i rest' hr
      cases h
      simp [ih hr]
    · split at h <;> cases h
      rfl

namespace Line.FramesSound

variable {l : Line}

/-- Without an attempt only the queue and the failure count are to be looked at. -/
theorem of_rest (queue : List QueuedFrame) (failures : Nat) (ha : l.attempt = none) (hq : queue.length ≤ 4)
    (hf : failures ≤ 8) (off : l.mode = .off → queue.length ≤ 1 ∧ ∀ f ∈ queue, f.leaving = true) :
    Line.FramesSound { l with queue := queue, failures := failures } :=
  ⟨off, hq, fun a h => by simp [ha] at h, fun a h => by simp [ha] at h, hf⟩

theorem of_same {l' : Line} (h : l.FramesSound) (same : l'.mode = l.mode ∧ l'.queue = l.queue
    ∧ l'.attempt = l.attempt ∧ l'.failures = l.failures) : l'.FramesSound := by
  obtain ⟨mode, queue, attempt, failures⟩ := same
  exact ⟨mode ▸ queue ▸ h.offQueue, queue ▸ h.queueFour, queue ▸ attempt ▸ h.attemptHead, attempt ▸ h.heldClaim,
    failures ▸ h.failuresEight⟩

/-- A mode other than OFF asks no more of the frames. -/
theorem of_working (l' : Line) (h : l.FramesSound) (on : l'.mode ≠ .off)
    (same : l'.queue = l.queue ∧ l'.attempt = l.attempt ∧ l'.failures = l.failures) : l'.FramesSound := by
  obtain ⟨queue, attempt, failures⟩ := same
  exact ⟨fun off => absurd off on, queue ▸ h.queueFour, queue ▸ attempt ▸ h.attemptHead, attempt ▸ h.heldClaim,
    failures ▸ h.failuresEight⟩

theorem replaceInFull (f : QueuedFrame) (h : l.FramesSound) (on : l.mode ≠ .off) :
    (replaceInFull f l).FramesSound := by
  have four := h.queueFour
  have head := h.attemptHead
  unfold Machine.replaceInFull
  (repeat' split)
  · exact h
  · rename_i hq _ rest' hr
    rw [hq] at four head
    exact ⟨fun off => absurd off on, by simpa [replaceLast_length hr] using four, head, h.heldClaim, h.failuresEight⟩
  · rename_i hq _ hr free
    rw [hq] at four
    exact of_rest _ _ free.1 (by simpa using four) (Nat.zero_le _) fun off => absurd off on
  · exact h

theorem removeClaim (h : l.FramesSound) (other : ∀ a, l.attempt = some a → a.frame.kind ≠ .claim) :
    (removeClaim l).FramesSound := by
  have fewer := List.length_filter_le (fun f : QueuedFrame => f.kind != .claim) l.queue
  have four := h.queueFour
  have eight := h.failuresEight
  refine ⟨fun off => ?_, ?_, fun a ha => ?_, h.heldClaim, ?_⟩
  · obtain ⟨one, leaving⟩ := h.offQueue off
    exact ⟨fewer.trans one, fun f hf => leaving f (List.mem_of_mem_filter hf)⟩
  · exact fewer.trans four
  · obtain ⟨rest, hq⟩ := List.head?_eq_some_iff.mp (h.attemptHead a ha)
    simp [Machine.removeClaim, hq, other a ha]
  · dsimp only [Machine.removeClaim]
    split <;> omega

/-- A WITHDRAWN is held against a CLAIM alone. -/
theorem hold {a : Attempt} (w : QueuedFrame) (h : l.FramesSound) (ha : l.attempt = some a)
    (claim : a.frame.kind = .claim) :
    Line.FramesSound { l with attempt := some { a with heldWithdrawn := some w } } := by
  refine ⟨h.offQueue, h.queueFour, ?_, ?_, h.failuresEight⟩
  · rintro _ ⟨rfl⟩
    exact h.attemptHead a ha
  · rintro _ ⟨rfl⟩ _
    exact claim

end Line.FramesSound

/-! ## What the operations keep -/

namespace LineSound

variable {s t : State}

theorem frames (h : LineSound s) : s.line.FramesSound := by
  obtain ⟨-, frames, -⟩ := lineSound_iff.mp h
  exact frames

/-- The invariant looks at the line, the view, the settings and the supply state alone. -/
theorem congr (h : LineSound s) (same : t.line = s.line ∧ t.view = s.view ∧ t.settings = s.settings
    ∧ t.supply.supplyState = s.supply.supplyState) : LineSound t := by
  obtain ⟨line, view, settings, supply⟩ := same
  rw [lineSound_iff] at h ⊢
  obtain ⟨mains, frames, ⟨off, rising, entries⟩, receiver⟩ := h
  rw [line, settings, supply]
  refine ⟨mains, frames, ⟨line ▸ view ▸ off, view ▸ rising, ?_⟩, receiver⟩
  rw [view, cfg_congr settings]
  exact entries

/-- The invariant of a part whose line changes in its frames, its receiver and its timers alone. -/
theorem of_line (h : LineSound s) (l : Line) (hm : l.mode = s.line.mode) (frames : l.FramesSound)
    (receiver : l.receiver.Sound) : LineSound { s with line := l } := by
  rw [lineSound_iff] at h ⊢
  obtain ⟨mains, -, ⟨off, rising, entries⟩, -⟩ := h
  exact ⟨fun on => mains fun e => on (hm.trans e), frames, ⟨fun e => off (hm.symm.trans e), rising, entries⟩, receiver⟩

/-- In OFF the view is empty, and the settings and the supply state are free. -/
theorem of_off (h : LineSound s) (off : s.line.mode = .off) (same : t.line = s.line ∧ t.view = s.view) :
    LineSound t := by
  obtain ⟨line, view⟩ := same
  have empty : t.view = [] := view.trans (h.offView off)
  refine lineSound_iff.mpr ⟨fun on => absurd (line ▸ off) on, line ▸ h.frames, ⟨fun _ => empty, ?_, ?_⟩,
    line ▸ h.receiver⟩ <;> simp [empty]

/-- Away from the mains the line is OFF. -/
theorem off_of_away (h : LineSound s) (away : s.supply.supplyState ≠ .onMains) : s.line.mode = .off :=
  by_contra fun on => away (h.onMains on).1

theorem off_of_unconfigured (h : LineSound s) (bare : s.settings = none) : s.line.mode = .off :=
  by_contra fun on => by simpa [bare] using (h.onMains on).2

theorem offer (f : QueuedFrame) (h : LineSound s) : LineSound (offer f s) := by
  obtain he | ⟨on, few, he⟩ | ⟨on, -, he⟩ := offer_cases s f
  · rwa [he]
  · rw [he]
    refine h.of_line _ rfl ⟨fun off => absurd off on, by simpa using few, fun a ha => ?_, h.heldClaim,
      h.failuresEight⟩ h.receiver
    obtain ⟨rest, hq⟩ := List.head?_eq_some_iff.mp (h.attemptHead a ha)
    simp [hq]
  · rw [he]
    exact h.of_line _ (by simp) (h.frames.replaceInFull f on) (by simpa using h.receiver)

theorem withdrawFrame (f : QueuedFrame) (h : LineSound s) : LineSound (withdrawFrame f s) := by
  have removed (other : ∀ a, s.line.attempt = some a → a.frame.kind ≠ .claim) :
      LineSound { s with line := removeClaim s.line } :=
    h.of_line _ (by simp) (h.frames.removeClaim other) (by simpa using h.receiver)
  unfold Machine.withdrawFrame
  split
  · rename_i a ha
    (repeat' split)
    · exact h.of_line _ rfl (h.frames.hold f ha ‹_›) h.receiver
    · exact removed fun b hb => by rw [ha] at hb; cases hb; assumption
    · exact h.offer f
  · rename_i ha
    split
    · exact removed fun b hb => by simp [ha] at hb
    · exact h.offer f

theorem withdrawClaim (h : LineSound s) : LineSound (withdrawClaim s) := by
  obtain ⟨-, he⟩ | ⟨n, -, he⟩ := withdrawClaim_cases s <;> rw [he]
  · exact h
  · exact LineSound.withdrawFrame _ (h.congr ⟨rfl, rfl, rfl, rfl⟩)

theorem tryClaim (h : LineSound s) : LineSound (tryClaim s) := by
  obtain he | ⟨p, rest, -, -, -, -, he⟩ := tryClaim_cases s <;> rw [he]
  · exact h
  · exact LineSound.offer _ (h.congr ⟨rfl, rfl, rfl, rfl⟩)

theorem settleChain (h : LineSound s) : LineSound (settleChain s) := by
  rw [settleChain_eq]
  unfold withdrawUnfounded
  (repeat' split)
  case h_2.isFalse => exact LineSound.withdrawClaim (h.congr ⟨rfl, rfl, rfl, rfl⟩)
  all_goals exact h.congr ⟨rfl, rfl, rfl, rfl⟩

theorem releaseAtOnce (low : Nat) (h : LineSound s) : LineSound (releaseAtOnce low s) := by
  obtain ⟨-, he⟩ | ⟨-, he⟩ := releaseAtOnce_cases s low <;> rw [he]
  · exact h
  · exact (h.congr (by simp)).offer _

theorem releaseAllForHost (h : LineSound s) : LineSound (releaseAllForHost s) := by
  refine LineSound.withdrawClaim ((h.releaseAtOnce 1).congr ?_)
  simp

theorem releaseMarked (h : LineSound s) : LineSound (releaseMarked s) := by
  unfold Machine.releaseMarked
  split
  · exact h
  · rename_i low _
    have offered := LineSound.offer (releasedFrame (cfg s) low (heldLen s)) (h.congr
      (t := { s with admission := { s.admission with held := s.admission.held.take (low - 1) } }) (by simp))
    exact offered.settleChain.congr (by simp)

theorem grantStep (p : StepRequest) (h : LineSound s) : LineSound (grantStep p s) := by
  have offered := LineSound.offer (stepFrame (cfg s) .taken p.step) (h.congr (t := permitsAtGrant p.step
    { s with admission := { s.admission with held := s.admission.held ++ [⟨p.tag, false⟩] } }) (by simp))
  exact offered.congr (by simp [grantStep_eq, State.granted])

theorem grant (p : StepRequest) (h : LineSound s) : LineSound (grant p s) := by
  unfold Machine.grant
  dsimp only
  split
  · exact (h.grantStep p).congr (by simp)
  · exact h.grantStep p

theorem shed (h : LineSound s) : LineSound (shed s) := by
  unfold Machine.shed
  dsimp only
  split
  · exact h
  · rename_i held _
    have released := h.releaseAtOnce (heldLen s)
    split
    · exact released.settleChain.congr (by simp)
    · exact (released.congr (t := putBack (heldLen s) held.tag (Machine.releaseAtOnce (heldLen s) s))
        (by simp)).settleChain.congr (by simp)

theorem overcommitTest (h : LineSound s) : LineSound (overcommitTest s) := by
  obtain he | ⟨-, -, -, he⟩ := overcommitTest_cases s <;> rw [he]
  exacts [h, h.shed]

theorem soloEntry (h : LineSound s) : LineSound (soloEntry s) := by
  have capped : LineSound (capHeldSteps s) := by
    unfold capHeldSteps
    dsimp only
    split
    · exact LineSound.settleChain ((h.releaseAtOnce (3 + (cfg s).soloCap)).congr (by simp))
    · exact h
  unfold Machine.soloEntry
  dsimp only
  (repeat' split)
  case h_1.isFalse => exact capped.withdrawClaim
  all_goals exact capped

theorem viewChange (h : LineSound s) : LineSound (viewChange s) := by
  have retested : LineSound (retestClaim s) := by
    obtain he | he | he := retestClaim_cases s <;> rw [he]
    exacts [h, h.withdrawClaim, h.tryClaim]
  unfold Machine.viewChange
  dsimp only
  split
  · exact retested.overcommitTest.congr (by simp)
  · exact retested.congr (by simp)

/-- A working line that stays one, with its LINE event and the entry into SOLO (R103, R138). -/
theorem changeMode {mode : LineMode} (cause : LineCause) (h : LineSound s) (on : s.line.mode ≠ .off)
    (working : mode ≠ .off) : LineSound (changeMode mode cause s) := by
  have moved : LineSound { s with line := { s.line with mode := mode } } := by
    rw [lineSound_iff] at h ⊢
    obtain ⟨mains, frames, ⟨-, rising, entries⟩, receiver⟩ := h
    exact ⟨fun _ => mains on, frames.of_working _ working ⟨rfl, rfl, rfl⟩,
      ⟨fun off => absurd off working, rising, entries⟩, receiver⟩
  have posted := moved.congr (t := post (.line mode cause) { s with line := { s.line with mode := mode } }) (by simp)
  unfold Machine.changeMode
  dsimp only
  split
  · exact posted.soloEntry
  · exact posted

/-! ### The line's own operations -/

theorem endAttempt (levels : List Bool) (h : LineSound s) : LineSound (endAttempt levels s) :=
  h.of_line _ rfl ⟨h.offQueue, h.queueFour, nofun, nofun, h.failuresEight⟩ (h.receiver.run levels)

theorem ownFrameRead (a : Attempt) (h : LineSound s) : LineSound (ownFrameRead a s) := by
  have read := h.endAttempt (frameLevels a.bytes)
  exact read.of_line _ rfl ⟨read.offQueue, read.queueFour, nofun, nofun, read.failuresEight⟩
    ⟨read.receiver.idle, read.receiver.gathered, read.receiver.underWay, read.receiver.held⟩

/-- The head leaves only once its attempt is over. -/
theorem dropHead (h : LineSound s) (ended : s.line.attempt = none) : LineSound (dropHead s) := by
  have fewer : s.line.queue.tail.length ≤ s.line.queue.length := by simp
  refine h.of_line _ rfl (.of_rest _ _ ended (fewer.trans h.queueFour) (Nat.zero_le _) fun off => ?_) h.receiver
  obtain ⟨one, leaving⟩ := h.offQueue off
  exact ⟨fewer.trans one, fun f hf => leaving f (List.mem_of_mem_tail hf)⟩

theorem restartPresence (h : LineSound s) : LineSound (restartPresence s) := by
  unfold Machine.restartPresence
  split
  · exact h
  · exact h.of_line _ rfl (h.frames.of_same ⟨rfl, rfl, rfl, rfl⟩) h.receiver

theorem countAsSent (f : QueuedFrame) (h : LineSound s) (ended : s.line.attempt = none) :
    LineSound (countAsSent f s) :=
  (h.dropHead ended).restartPresence.congr (by simp [Machine.countAsSent])

theorem endJoinEarly (h : LineSound s) : LineSound (endJoinEarly s) := by
  unfold Machine.endJoinEarly
  dsimp only
  (repeat' split)
  case isFalse => exact h
  all_goals exact h.of_line _ rfl (h.frames.of_same ⟨rfl, rfl, rfl, rfl⟩) h.receiver

end LineSound

end Sys2Proof.Machine
end

section
/-! Every step keeps the line mode, the transmit queue, the attempt, the receiver and the view in accord (R90, R91,
R95, R99, R100, R105 to R107). -/

namespace Sys2Proof.Machine

namespace LineSound

variable {s t : State}

/-! ## Failed attempts and frames sent (R94 to R98, R100) -/

theorem lineFault (h : LineSound s) (on : s.line.mode ≠ .off) : LineSound (lineFault s) :=
  h.endJoinEarly.changeMode _ (by simpa using on) nofun

theorem lineFault_of_eighth (h : LineSound s) (on : s.line.mode ≠ .off) :
    LineSound (Machine.lineFault { s with line := { s.line with failures := 8 } }) :=
  LineSound.lineFault (h.of_line { s.line with failures := 8 } rfl
    ⟨h.offQueue, h.queueFour, h.attemptHead, h.heldClaim, Nat.le_refl 8⟩ h.receiver) on

theorem oneFailureMore (h : LineSound s) (few : s.line.failures < 7) :
    LineSound { s with line := { s.line with failures := s.line.failures + 1 } } :=
  h.of_line _ rfl ⟨h.offQueue, h.queueFour, h.attemptHead, h.heldClaim, by dsimp only; omega⟩ h.receiver

theorem failHead (f : QueuedFrame) (h : LineSound s) (ended : s.line.attempt = none) : LineSound (failHead f s) := by
  have few (late : ¬ Config.failureLimit ≤ s.line.failures + 1) : s.line.failures < 7 := by
    simpa [Config.failureLimit] using late
  unfold Machine.failHead
  split
  · exact h.countAsSent f ended
  · split
    · exact h.countAsSent f ended
    · exact h.oneFailureMore (few ‹_›)
  · split
    · exact h.dropHead ended
    · exact h.oneFailureMore (few ‹_›)
  all_goals
    rename_i hm
    split
    · exact h.lineFault_of_eighth (by simp [hm])
    · exact h.oneFailureMore (few ‹_›)

theorem dropWithdrawnClaim (h : LineSound s) (ended : s.line.attempt = none) : LineSound (dropWithdrawnClaim s) :=
  (h.dropHead ended).congr (by simp [Machine.dropWithdrawnClaim])

end LineSound

/-- Where no attempt is in progress none begins by a withdrawal, a release or the entry into SOLO. -/
theorem withdrawClaim_attempt_of_none {s : State} (h : s.line.attempt = none) :
    (withdrawClaim s).line.attempt = none := by
  obtain ⟨-, he⟩ | ⟨n, -, he⟩ := withdrawClaim_cases s <;> rw [he]
  · exact h
  · obtain ⟨a, ha, -, -⟩ | he | he := withdrawFrame_cases { s with admission := { s.admission with
        claim := .unannounced, testAtTick := s.admission.testAtTick || isPending s n } }
      (stepFrame (cfg s) .withdrawn n)
    · simp [h] at ha
    · simpa [he] using h
    · simpa [he] using h

theorem settleChain_attempt_of_none {s : State} (h : s.line.attempt = none) :
    (settleChain s).line.attempt = none := by
  rw [settleChain_eq]
  unfold withdrawUnfounded
  (repeat' split)
  case h_2.isFalse => exact withdrawClaim_attempt_of_none h
  all_goals exact h

theorem releaseAtOnce_attempt (low : Nat) (s : State) : (releaseAtOnce low s).line.attempt = s.line.attempt := by
  obtain ⟨-, he⟩ | ⟨-, he⟩ := releaseAtOnce_cases s low <;> simp [he]

theorem soloEntry_attempt_of_none {s : State} (h : s.line.attempt = none) : (soloEntry s).line.attempt = none := by
  have capped : (capHeldSteps s).line.attempt = none := by
    unfold capHeldSteps
    dsimp only
    split
    · exact settleChain_attempt_of_none (by simpa [releaseAtOnce_attempt] using h)
    · exact h
  unfold soloEntry
  dsimp only
  (repeat' split)
  case h_1.isFalse => exact withdrawClaim_attempt_of_none capped
  all_goals exact capped

theorem changeMode_attempt_of_none {s : State} (mode : LineMode) (cause : LineCause) (h : s.line.attempt = none) :
    (changeMode mode cause s).line.attempt = none := by
  unfold changeMode
  dsimp only
  split
  · exact soloEntry_attempt_of_none (by simpa using h)
  · simpa using h

theorem failHead_attempt_of_none {s : State} (f : QueuedFrame) (h : s.line.attempt = none) :
    (failHead f s).line.attempt = none := by
  obtain he | ⟨-, he⟩ | ⟨-, he⟩ | ⟨-, he⟩ := failHead_cases s f <;> rw [he]
  · exact h
  · simpa using h
  · simpa using h
  · exact changeMode_attempt_of_none _ _ (by simpa using h)

/-! ### The mode a change leaves -/

theorem modeByView_ne_off (s : State) : modeByView s ≠ .off := by
  unfold modeByView
  (repeat' split) <;> simp

namespace LineSound

variable {s t : State}

theorem tellSent (f : QueuedFrame) (h : LineSound s) : LineSound (tellSent f s) := h.congr (by simp)

theorem resumeTestAtTick (h : LineSound s) : LineSound (resumeTestAtTick s) := h.congr ⟨rfl, rfl, rfl, rfl⟩

theorem failAttempt (a : Attempt) (bit : Nat) (h : LineSound s) : LineSound (failAttempt a bit s) := by
  have ended := h.endAttempt (misreadLevels a.bytes bit)
  unfold Machine.failAttempt
  dsimp only
  (repeat' split)
  · exact ended.failHead _ rfl
  · exact (LineSound.offer _ (ended.countAsSent a.frame rfl)).resumeTestAtTick
  · exact LineSound.dropWithdrawnClaim (ended.failHead a.frame rfl) (failHead_attempt_of_none a.frame rfl)

theorem clearFault (h : LineSound s) : LineSound (clearFault s) := by
  unfold Machine.clearFault
  split
  · rename_i hm
    exact h.changeMode _ (by simp [hm]) (modeByView_ne_off s)
  all_goals exact h

theorem finishAttempt (a : Attempt) (h : LineSound s) : LineSound (finishAttempt a s) := by
  have sent := ((h.ownFrameRead a).dropHead rfl).restartPresence.clearFault.tellSent a.frame
  unfold Machine.finishAttempt
  dsimp only
  split
  · exact sent
  · exact (LineSound.offer _ sent).resumeTestAtTick

/-! ## Frames heard, and the view (R97, R98, R104, R108 to R112) -/

/-- The invariant of a working part with another view. -/
theorem of_view (h : LineSound s) (on : s.line.mode ≠ .off) (view : List PeerEntry)
    (rising : view.Pairwise (fun e f => e.number < f.number)) (entries : ∀ e ∈ view, e.Sound (cfg s).station) :
    LineSound { s with view := view } := by
  rw [lineSound_iff] at h ⊢
  obtain ⟨mains, frames, -, receiver⟩ := h
  exact ⟨mains, frames, ⟨fun off => absurd off on, rising, entries⟩, receiver⟩

end LineSound

/-- What a valid frame carries is within the ranges of R97. -/
theorem frameOf_ranges {bytes : List Byte} {f : Frame} (h : frameOf bytes = some f) :
    f.arb < 256 ∧ f.feeder ≤ 4095 ∧ f.duct ≤ 4095 ∧ f.prefixLen ≤ 6 ∧ f.step ≤ 6 := by
  unfold frameOf at h
  split at h
  · dsimp only at h
    split at h
    · rename_i checks
      obtain ⟨-, -, ranges⟩ := checks
      cases h
      exact ⟨BitVec.isLt _, ranges⟩
    · cases h
  · cases h

theorem receivedFrame_some {chars : List LineChar} {f : Frame} (h : receivedFrame chars = some f) :
    frameOf (chars.map (·.data)) = some f := by
  unfold receivedFrame at h
  split at h
  · exact h
  · cases h

theorem mem_writeEntry {e x : PeerEntry} {view : List PeerEntry}
    (rising : view.Pairwise (fun e f => e.number < f.number)) :
    x ∈ writeEntry e view ↔ x = e ∨ (x ∈ view ∧ x.number ≠ e.number) := by
  induction view with
  | nil => simp [writeEntry]
  | cons y rest ih =>
    obtain ⟨above, rising⟩ := List.pairwise_cons.mp rising
    unfold writeEntry
    (repeat' split)
    · rename_i below
      have others : x ∈ y :: rest → x.number ≠ e.number := fun hx => by
        obtain rfl | hx := List.mem_cons.mp hx
        · omega
        · have later := above x hx
          omega
      rw [List.mem_cons]
      exact or_congr_right ⟨fun hx => ⟨hx, others hx⟩, And.left⟩
    · rename_i same
      have others : x ∈ rest → x.number ≠ e.number := fun hx => by
        have later := above x hx
        omega
      rw [List.mem_cons, List.mem_cons]
      refine or_congr_right ⟨fun hx => ⟨.inr hx, others hx⟩, ?_⟩
      rintro ⟨rfl | hx, other⟩
      · exact absurd same.symm other
      · exact hx
    · rename_i other
      rw [List.mem_cons, ih rising, List.mem_cons]
      constructor
      · rintro (rfl | rfl | ⟨hx, hn⟩)
        exacts [.inr ⟨.inl rfl, fun e => other e.symm⟩, .inl rfl, .inr ⟨.inr hx, hn⟩]
      · rintro (rfl | ⟨rfl | hx, hn⟩)
        exacts [.inr (.inl rfl), .inl rfl, .inr (.inr ⟨hx, hn⟩)]

theorem writeEntry_rising (e : PeerEntry) {view : List PeerEntry}
    (rising : view.Pairwise (fun e f => e.number < f.number)) :
    (writeEntry e view).Pairwise (fun e f => e.number < f.number) := by
  induction view with
  | nil => simp [writeEntry]
  | cons y rest ih =>
    obtain ⟨above, tail⟩ := List.pairwise_cons.mp rising
    unfold writeEntry
    (repeat' split)
    · rename_i below
      refine List.pairwise_cons.mpr ⟨fun x hx => ?_, rising⟩
      obtain rfl | hx := List.mem_cons.mp hx
      · exact below
      · exact below.trans (above x hx)
    · rename_i same
      exact List.pairwise_cons.mpr ⟨fun x hx => same ▸ above x hx, tail⟩
    · refine List.pairwise_cons.mpr ⟨fun x hx => ?_, ih tail⟩
      obtain rfl | ⟨hx, -⟩ := (mem_writeEntry tail).mp hx
      · omega
      · exact above x hx

theorem entryOf_sound {bytes : List Byte} {f : Frame} {own : Nat} (h : frameOf bytes = some f) (hn : f.number ≠ own) :
    (entryOf f).Sound own := by
  obtain ⟨-, feeder, duct, held, -⟩ := frameOf_ranges h
  exact ⟨⟨Nat.mod_lt _ (by decide), hn⟩, ⟨feeder, duct, held, Nat.sub_le _ _⟩, fun away => absurd rfl away⟩

namespace LineSound

variable {s t : State}

theorem hearPeer {bytes : List Byte} {f : Frame} (h : LineSound s) (on : s.line.mode ≠ .off)
    (hf : frameOf bytes = some f) (hn : f.number ≠ (cfg s).station) : LineSound (hearPeer f s) := by
  have rising := h.viewRising
  have written : LineSound { s with view := writeEntry (entryOf f) s.view } := by
    refine h.of_view on _ (writeEntry_rising _ rising) fun e he => ?_
    obtain rfl | ⟨he, -⟩ := (mem_writeEntry rising).mp he
    · exact entryOf_sound hf hn
    · exact h.viewEntries e he
  have known : LineSound (entryCreated { s with view := writeEntry (entryOf f) s.view }) := by
    unfold entryCreated
    split
    case h_1 | h_2 => exact written.changeMode _ on nofun
    all_goals exact written
  have motor (u : State) (hu : LineSound u) : LineSound (peerMotorStart u) := by
    have restarted :=
      hu.congr (t := { u with admission := { u.admission with spacing := some 0 } }) ⟨rfl, rfl, rfl, rfl⟩
    unfold peerMotorStart
    dsimp only
    (repeat' split)
    case h_1.isTrue => exact restarted.withdrawClaim
    all_goals exact restarted
  unfold Machine.hearPeer
  dsimp only
  (repeat' split)
  · exact motor _ known.viewChange
  · exact motor _ written.viewChange
  · exact known.viewChange
  · exact written.viewChange

theorem hearDuplicate (h : LineSound s) (on : s.line.mode ≠ .off) : LineSound (hearDuplicate s) := by
  unfold Machine.hearDuplicate
  split
  · exact h
  · have marked : LineSound { s with line := { s.line with duplicateMark := true } } :=
      h.of_line _ rfl (h.frames.of_same ⟨rfl, rfl, rfl, rfl⟩) h.receiver
    exact marked.endJoinEarly.changeMode _ (by simpa using on) nofun

theorem endFrame (g : Gathered) (h : LineSound s) : LineSound (endFrame g s) := by
  obtain he | ⟨f, hf, on, -, he⟩ := endFrame_cases s g <;> rw [he]
  · exact h
  · unfold judgeFrame
    split
    · exact h.hearDuplicate on
    · exact h.hearPeer on (receivedFrame_some hf) ‹_›

theorem receive (samples : List Bool) (h : LineSound s) : LineSound (receive samples s) := by
  obtain he | ⟨-, -, he⟩ := receive_cases s samples <;> rw [he]
  · exact h
  · have read : LineSound { s with line := { s.line with receiver := (s.line.receiver.run samples).1 } } :=
      h.of_line _ rfl (h.frames.of_same ⟨rfl, rfl, rfl, rfl⟩) (h.receiver.run samples)
    generalize { s with line := { s.line with receiver := (s.line.receiver.run samples).1 } } = u at read
    induction (s.line.receiver.run samples).2 generalizing u with
    | nil => exact read
    | cons g rest ih => exact ih _ (read.endFrame g)

/-- Ageing, silence and removal keep the ranges of the entries and their order. -/
theorem of_sublist (h : LineSound s) (view : List PeerEntry) (older : PeerEntry → PeerEntry)
    (hv : view.Sublist (s.view.map older)) (number : ∀ e, (older e).number = e.number)
    (sound : ∀ own e, e.Sound own → (older e).Sound own) : LineSound { s with view := view } := by
  rw [lineSound_iff] at h ⊢
  obtain ⟨mains, frames, ⟨off, rising, entries⟩, receiver⟩ := h
  refine ⟨mains, frames, ⟨fun e => ?_, ?_, fun e he => ?_⟩, receiver⟩
  · rw [off e] at hv
    exact List.sublist_nil.mp hv
  · refine List.Pairwise.sublist hv (List.pairwise_map.mpr (rising.imp fun {e f} lt => ?_))
    rwa [number, number]
  · obtain ⟨x, hx, rfl⟩ := List.mem_map.mp (hv.subset he)
    exact sound _ x (entries x hx)

theorem silenceEntry (n : Nat) (h : LineSound s) : LineSound { s with view := silenceEntry n s.view } := by
  refine h.of_sublist _ _ (List.Sublist.refl _) (fun e => ?_) fun own e he => ?_ <;> split
  case refine_2.isTrue => exact ⟨he.number, he.totals, fun _ => rfl⟩
  case refine_2.isFalse => exact he
  all_goals rfl

theorem removeEntry (n : Nat) (h : LineSound s) : LineSound (removeEntry n s) := by
  have removed : LineSound (Machine.viewChange { s with view := s.view.filter (fun e => e.number != n) }) :=
    LineSound.viewChange (h.of_sublist _ id (by simp) (fun _ => rfl) fun _ _ he => he)
  unfold Machine.removeEntry
  dsimp only
  split
  · unfold lastEntryRemoved
    split
    · rename_i hm
      exact removed.changeMode _ (by rw [hm]; nofun) (by split <;> simp)
    all_goals exact removed
  · exact removed

/-! ## Attempts, timers and the heat period -/

theorem beginAttempt {f : QueuedFrame} (h : LineSound s) (hf : s.line.queue.head? = some f) :
    LineSound (beginAttempt f s) := by
  refine LineSound.congr (h.of_line { s.line with attempt := some ⟨f, (fillFrame f s).bytes, none⟩ } rfl
    ⟨h.offQueue, h.queueFour, ?_, ?_, h.failuresEight⟩ h.receiver) ⟨rfl, rfl, rfl, rfl⟩
  · rintro _ ⟨rfl⟩
    exact hf
  · rintro _ ⟨rfl⟩ held
    exact absurd rfl held

/-- A line that changes in its duplicate mark and its timers alone. -/
theorem of_timers (l : Line) (h : LineSound s) (same : l = { s.line with
      presenceRunning := l.presenceRunning, presenceTicks := l.presenceTicks, joinRunning := l.joinRunning
      joinTicks := l.joinTicks, joinSlotDone := l.joinSlotDone }) : LineSound { s with line := l } := by
  rw [same]
  exact h.of_line _ rfl (h.frames.of_same ⟨rfl, rfl, rfl, rfl⟩) h.receiver

theorem holdEnd (h : LineSound s) : LineSound (holdEnd s) := by
  unfold Machine.holdEnd
  split
  · split
    · exact h
    · split
      · split
        · exact h.grant _
        · exact h.withdrawClaim
      · exact h.withdrawClaim
  all_goals exact h

theorem openDoor (h : LineSound s) : LineSound (openDoor s) := by
  have released := LineSound.releaseAtOnce 1 (h.congr (t := s.doorRead) (by simp [State.doorRead]))
  have completed : LineSound s.doorReleased := by
    refine released.congr ?_
    unfold State.doorReleased
    dsimp only
    split <;> simp
  rw [openDoor_eq]
  exact completed.withdrawClaim.congr (by simp)

/-! ## The requests (R131 to R133, R158) -/

theorem guardTest (h : LineSound s) : LineSound (guardTest s) := by
  obtain ⟨-, he⟩ | ⟨-, he⟩ := guardTest_cases s <;> rw [he]
  · exact h
  · exact (LineSound.settleChain (h.congr (t := cancelStep 1 s) (by simp))).congr (by simp [guardExpiry])

theorem dropStepOwner (r : Request) (h : LineSound s) : LineSound (dropStepOwner r s) := by
  unfold Machine.dropStepOwner
  dsimp only
  (repeat' split)
  · exact h.congr (by simp)
  · exact (LineSound.settleChain (h.congr (t := cancelStep r.param.toNat s) (by simp))).congr (by simp)
  · exact (h.releaseAtOnce r.param.toNat).settleChain.congr (by simp)
  · exact LineSound.settleChain (h.congr (by simp))
  · exact h.congr (by simp)

/-- The join window begins in a configured part on the mains (R102). -/
theorem beginJoin (h : LineSound s) (mains : s.supply.supplyState = .onMains) (configured : s.settings.isSome = true) :
    LineSound (beginJoin s) := by
  refine lineSound_iff.mpr ⟨fun _ => ⟨mains, configured⟩, ⟨nofun, ?_, nofun, nofun, ?_⟩, ⟨nofun, ?_, nofun⟩, ?_⟩
  · exact Nat.zero_le 4
  · exact Nat.zero_le 8
  · exact .nil
  · dsimp only [Machine.beginJoin]
    split
    · unfold Line.receiverAfterCut
      split
      · exact h.receiver
      · exact .initial
    · exact .initial

theorem acceptConfigure (raw : Settings) (h : LineSound s) (off : s.line.mode = .off) :
    LineSound (acceptConfigure raw s) := by
  have configured : LineSound (s.configured raw) := h.of_off off (by simp [State.configured])
  have assessed (carried : Nat) := fun off =>
    configured.congr (t := assess .gauge off carried (s.configured raw)) (by simp)
  rw [acceptConfigure_eq]
  dsimp only
  split
  · rename_i mains
    exact LineSound.beginJoin ((assessed _ _).congr ⟨rfl, rfl, rfl, rfl⟩) mains (by simp [State.configured])
  · exact (assessed _ _).congr ⟨rfl, rfl, rfl, rfl⟩

theorem decideConfigure (r : Request) (h : LineSound s) : LineSound (decideConfigure r s) := by
  unfold Machine.decideConfigure
  dsimp only
  (repeat' split)
  case isFalse.isFalse.isFalse =>
    rename_i bare _ _
    exact h.acceptConfigure _ (h.off_of_unconfigured (not_not.mp bare))
  all_goals exact h.congr (by simp)

theorem configureOwner (r : Request) (h : LineSound s) : LineSound (configureOwner r s) := by
  unfold Machine.configureOwner
  split
  · exact h
  · exact h.decideConfigure r

theorem resumeAnswerOwner (r : Request) (h : LineSound s) : LineSound (resumeAnswerOwner r s) := by
  have refused (result : Result) : LineSound (completeService result 0 s) := h.congr (by simp)
  unfold Machine.resumeAnswerOwner
  split
  · split
    · exact refused _
    · split
      · exact refused _
      · exact LineSound.guardTest (h.congr (by simp))
  · split
    · split
      · exact refused _
      · exact h.congr (by simp)
    · exact refused _

theorem stillSecond (h : LineSound s) : LineSound (stillSecond s) := by
  unfold Machine.stillSecond
  split
  · exact LineSound.guardTest (h.congr ⟨rfl, rfl, rfl, rfl⟩)
  · exact h

theorem hostStopOwner (r : Request) (h : LineSound s) : LineSound (hostStopOwner r s) := by
  unfold Machine.hostStopOwner
  dsimp only
  split
  · exact LineSound.congr (LineSound.releaseAllForHost
      (h.congr (t := { s with context := stoppedContext r.param s.context }) ⟨rfl, rfl, rfl, rfl⟩)) (by simp)
  · exact h.congr (by simp)

theorem closeCycleOwner (r : Request) (h : LineSound s) : LineSound (closeCycleOwner r s) := by
  unfold Machine.closeCycleOwner
  split
  case h_4 | h_5 => exact h.congr (by simp)
  all_goals exact h.releaseAllForHost.congr (by simp)

theorem endReading (counter : BitVec 16) (h : LineSound s) : LineSound (resumeConfigure (endReading counter s)) := by
  have read : LineSound (Machine.endReading counter s) := h.congr (by simp)
  unfold resumeConfigure
  split
  · exact read.decideConfigure _
  · exact read

/-! ## The supply (R41 to R48) -/

theorem emptyLine (h : LineSound s) : LineSound (emptyLine s) :=
  h.of_line _ rfl ⟨fun _ => ⟨Nat.zero_le 1, nofun⟩, Nat.zero_le 4, nofun, nofun, Nat.zero_le 8⟩ h.receiver

theorem enterDormant (h : LineSound s) (off : s.line.mode = .off) : LineSound (enterDormant s) :=
  h.emptyLine.of_off off ⟨rfl, rfl⟩

theorem enterHolding (h : LineSound s) (off : s.line.mode = .off) : LineSound (enterHolding s) := by
  have held : LineSound { s with
      supply := { s.supply with supplyState := .holding, settle := 0, settleOpen := false } } :=
    h.of_off off ⟨rfl, rfl⟩
  unfold Machine.enterHolding
  dsimp only
  split
  · exact held.enterDormant off
  · exact held

/-- The loss sequence leaves the LEAVING frame alone in the queue (R41 step 6). -/
theorem vacateLine (n : Nat) (h : s.line.receiver.Sound) : LineSound (vacateLine n s) := by
  refine lineSound_iff.mpr ⟨fun on => absurd rfl on, ⟨fun _ => ⟨Nat.le_refl 1, ?_⟩, ?_, nofun, nofun, Nat.zero_le 8⟩,
    ⟨fun _ => rfl, .nil, nofun⟩, ?_⟩
  · simp [Machine.vacateLine]
  · simp [Machine.vacateLine]
  · dsimp only [Machine.vacateLine]
    split
    · exact .initial
    · unfold Line.receiverAfterCut
      split
      · exact h
      · exact .initial

theorem declareLoss (h : LineSound s) : LineSound (declareLoss s) := by
  have vacated : LineSound (Machine.vacateLine (heldLen s) s.lossRecorded) :=
    .vacateLine _ (by simpa [State.lossRecorded, State.lossGauge] using h.receiver)
  have told : LineSound s.lossTold := vacated.congr (by simp [State.lossTold])
  have off : s.lossTold.line.mode = .off := by simp [State.lossTold]
  rw [declareLoss_eq]
  have held : LineSound s.lossHeld := LineSound.enterHolding (told.of_off off ⟨rfl, rfl⟩) off
  exact held.congr (by simp)

theorem dropout (h : LineSound s) : LineSound (dropout s) := by
  unfold Machine.dropout
  (repeat' split)
  case h_1 | h_2 => exact h.declareLoss
  case h_3 => exact h.enterHolding (h.off_of_away (by simp [*]))
  all_goals exact h

theorem enterReturning (h : LineSound s) (off : s.line.mode = .off) : LineSound (enterReturning s) :=
  h.of_off off (by simp)

theorem pulse (h : LineSound s) : LineSound (pulse s) := by
  have seen : LineSound { s with supply := { s.supply with absence := 0, pulseSeen := true } } :=
    h.congr ⟨rfl, rfl, rfl, rfl⟩
  unfold Machine.pulse
  dsimp only
  (repeat' split)
  case h_1.isTrue | h_2.isTrue => exact seen.enterReturning (h.off_of_away (by simp [*]))
  all_goals exact seen

theorem newReading (x : VholdReading) (h : LineSound s) : LineSound (newReading x s) := by
  have read : LineSound { s with supply := { s.supply with vhold := x } } := h.congr ⟨rfl, rfl, rfl, rfl⟩
  unfold Machine.newReading
  dsimp only
  (repeat' split)
  case h_1.isTrue | h_2.isTrue => exact read.enterDormant (h.off_of_away (by simp [*]))
  case h_3.isTrue => exact read.enterReturning (h.off_of_away (by simp [*]))
  all_goals exact read

theorem confirmStart (h : LineSound s) : LineSound (confirmStart s) := by
  unfold Machine.confirmStart
  dsimp only
  split
  · rename_i starting
    have mains : LineSound (enterOnMains s) := h.of_off (h.off_of_away (by simp [starting.1])) (by simp)
    split
    · rename_i configured
      exact mains.beginJoin rfl (Option.isSome_iff_ne_none.mpr configured)
    · exact mains
  · exact h

theorem backOnMains (h : LineSound s) (off : s.line.mode = .off) : LineSound s.backOnMains := by
  unfold State.backOnMains
  dsimp only
  split
  · rename_i configured
    exact LineSound.congr (LineSound.beginJoin (h.of_off off (by simp)) (by simp)
      (Option.isSome_iff_ne_none.mpr configured)) ⟨rfl, rfl, rfl, rfl⟩
  · exact LineSound.congr (LineSound.emptyLine (h.of_off off (by simp))) ⟨rfl, rfl, rfl, rfl⟩

theorem confirmReturn (h : LineSound s) : LineSound (confirmReturn s) := by
  rw [confirmReturn_eq]
  dsimp only
  split
  · rename_i returning
    have back := h.backOnMains (h.off_of_away (by simp [returning.1]))
    split
    · exact back.congr (by simp)
    · exact back.congr ⟨rfl, rfl, rfl, rfl⟩
  · exact h

/-! ## Starts, ends of operation, and time (R51, R52, R91, R95, R111) -/

/-- The line after a start (R105). -/
theorem of_started (hl : s.line = Line.initial) (hv : s.view = []) : LineSound s := by
  refine lineSound_iff.mpr ?_
  rw [hl]
  exact ⟨fun on => absurd rfl on, ⟨fun _ => ⟨Nat.zero_le 1, nofun⟩, Nat.zero_le 4, nofun, nofun, Nat.zero_le 8⟩,
    ⟨fun _ => hv, hv ▸ .nil, fun e he => by simp [hv] at he⟩, .initial⟩

theorem holdReset (h : LineSound s) : LineSound (holdReset s) :=
  LineSound.congr (h.of_line { s.line with attempt := none, receiver := Receiver.initial } rfl
    ⟨h.offQueue, h.queueFour, nofun, nofun, h.failuresEight⟩ .initial) ⟨rfl, rfl, rfl, rfl⟩

theorem tick (h : LineSound s) : LineSound (tick s) := by
  have held : heldNext s ≤ 10 := by
    unfold heldNext
    dsimp only [Config.heldTicks]
    split <;> omega
  have line : LineSound { s with line := tickLine s } :=
    h.of_line _ rfl (h.frames.of_same ⟨rfl, rfl, rfl, rfl⟩)
      ⟨h.receiver.idle, h.receiver.gathered, h.receiver.underWay, held⟩
  have view := line.of_sublist (s.view.map PeerEntry.tick) PeerEntry.tick (.refl _) (fun e => ?_) fun own e he => ?_
  · exact view.congr ⟨rfl, rfl, rfl, rfl⟩
  · unfold PeerEntry.tick
    split <;> rfl
  · unfold PeerEntry.tick
    split
    · exact ⟨he.number, he.totals, he.silentClaim⟩
    · rename_i silent
      exact ⟨he.number, he.totals, fun _ => he.silentClaim (by simp [silent])⟩

theorem idle (h : LineSound s) : LineSound (idle s) := by
  obtain he | ⟨c, he⟩ | ⟨-, -, he⟩ := idle_cases s <;> rw [he]
  · exact h
  · exact h.congr ⟨rfl, rfl, rfl, rfl⟩
  · exact h.tick

/-! ## The commands -/

theorem serving {k : RequestKind} {owner : Request → State → State} (h : LineSound s)
    (own : ∀ r u, LineSound u → LineSound (owner r u)) (he : whenRunning (serveKind k owner) s = .next t) :
    LineSound t :=
  whenRunning_keeps h (fun _ => takeIntoService_keeps _ h (fun _ _ hu => hu.congr ⟨rfl, rfl, rfl, rfl⟩)
    fun r u hu _ => own r u hu) he

theorem transacting {k : TransactionKind} {mosi : List Byte} {body : List Byte → State → State × List Byte}
    (h : LineSound s) (hb : LineSound (body mosi.tail s).1)
    (he : (.next (transaction k mosi body s) : Host.Outcome State Fault Refusal) = .next t) : LineSound t :=
  transaction_keeps h (fun _ _ hu => hu.congr ⟨rfl, rfl, rfl, rfl⟩) (fun _ => hb) he

end LineSound

/-- The commands of the bank line and of the view (R91 to R104, R110 to R112). -/
def ofLine : Instr → Bool
  | .attemptStart | .arbitrationLost _ | .bitError _ | .lineHeld | .frameSent | .frameReceived _ _ | .presenceDue
  | .joinSlot | .joinWindowEnd | .peerSilent _ | .peerRemoved _ => true
  | _ => false

namespace LineSound

variable {s t : State}

/-- An effect that a command makes under a condition of its own. -/
theorem ite {c : Prop} [Decidable c] {a b : State} (ha : c → LineSound a) (hb : LineSound b) :
    LineSound (if c then a else b) := by
  split
  · exact ha ‹_›
  · exact hb

theorem exec_ofLine {c : Instr} (hc : ofLine c = true) (h : LineSound s) (he : exec c s = .next t) : LineSound t := by
  cases c
  case attemptStart =>
    simp only [exec, execAttemptStart] at he
    refine whenRunning_keeps h (fun _ => ?_) he
    split
    · exact ite (fun _ => h.beginAttempt (waitingFrame_some ‹_›).2.1) h
    · exact h
  case arbitrationLost bit =>
    simp only [exec, execArbitrationLost] at he
    refine whenRunning_keeps h (fun _ => ?_) he
    split
    · rename_i a _
      have ended := h.endAttempt (misreadLevels a.bytes bit)
      exact ite (fun _ => ite (fun _ => ended) (ended.dropWithdrawnClaim rfl)) h
    · exact h
  case bitError bit =>
    simp only [exec, execBitError] at he
    refine whenRunning_keeps h (fun _ => ?_) he
    split
    · exact ite (fun _ => h.failAttempt _ bit) h
    · exact h
  case lineHeld =>
    refine whenRunning_keeps h (fun _ => ?_) he
    obtain same | ⟨f, waits, -, failed⟩ := lineHeld_cases s
    · rwa [same]
    · rw [failed]
      refine LineSound.failHead f (h.of_line _ rfl ?_ ?_) (waitingFrame_some waits).1
      · exact h.frames.of_same ⟨rfl, rfl, rfl, rfl⟩
      · exact ⟨h.receiver.idle, h.receiver.gathered, h.receiver.underWay, Nat.zero_le 10⟩
  case frameSent =>
    simp only [exec, execFrameSent] at he
    refine whenRunning_keeps h (fun _ => ?_) he
    split
    · exact h.finishAttempt _
    · exact h
  case frameReceived => exact whenRunning_keeps h (fun _ => h.receive _) he
  case presenceDue =>
    refine whenRunning_keeps h (fun _ => ite (fun _ => LineSound.offer _ (h.of_timers _ rfl)) h) he
  case joinSlot =>
    refine whenRunning_keeps h (fun _ => ite (fun _ => LineSound.offer _ (h.of_timers _ rfl)) h) he
  case joinWindowEnd =>
    refine whenRunning_keeps h (fun _ => ite (fun joining => ?_) h) he
    refine LineSound.changeMode _ (h.of_timers _ rfl) (by simp [joining.1]) ?_
    split
    · nofun
    · exact modeByView_ne_off s
  case peerSilent n => exact whenRunning_keeps h (fun _ => ite (fun _ => (h.silenceEntry n).viewChange) h) he
  case peerRemoved n => exact whenRunning_keeps h (fun _ => ite (fun _ => h.removeEntry n) h) he
  all_goals cases hc

theorem exec_keeps {c : Instr} (h : LineSound s) (he : exec c s = .next t) : LineSound t := by
  cases hc : ofLine c
  case true => exact h.exec_ofLine hc he
  cases c
  case sendRequest =>
    refine h.transacting (h.congr ?_) he
    unfold sendRequestBody
    (repeat' split) <;> simp
  case takeEvent =>
    refine h.transacting (h.congr ?_) he
    unfold takeEventBody
    split <;> simp
  case writeProgress =>
    refine h.transacting (h.congr ?_) he
    unfold writeProgressBody
    split <;> simp
  case readStatus =>
    refine h.transacting (h.congr ?_) he
    unfold readStatusBody
    split <;> simp
  case configure => exact h.serving (fun r _ => configureOwner r) he
  case requestStep => exact h.serving (fun r u hu => hu.congr (t := requestStepOwner r u) (by simp)) he
  case openCycle => exact h.serving (fun r u hu => hu.congr (t := openCycleOwner r u) (by simp)) he
  case continueCycle => exact h.serving (fun r u hu => hu.congr (t := continueCycleOwner r u) (by simp)) he
  case unknownKindServed =>
    exact whenRunning_keeps h (fun _ => takeIntoService_keeps _ h (fun _ _ hu => hu.congr ⟨rfl, rfl, rfl, rfl⟩)
      fun r u hu _ => hu.congr (by simp)) he
  case dropStep => exact h.serving (fun r _ => dropStepOwner r) he
  case hostStop => exact h.serving (fun r _ => hostStopOwner r) he
  case closeCycle => exact h.serving (fun r _ => closeCycleOwner r) he
  case resumeAnswer => exact h.serving (fun r _ => resumeAnswerOwner r) he
  case stillTimerSecond => exact whenRunning_keeps h (fun _ => h.stillSecond) he
  case startupReadingEnd counter =>
    simp only [exec, execStartupReadingEnd] at he
    exact whenRunning_keeps h (fun _ => ite (fun _ => h.endReading counter) h) he
  case dropout => exact whenRunning_keeps h (fun _ => h.dropout) he
  case returnConfirmation => exact whenRunning_keeps h (fun _ => h.confirmStart) he
  case warmReturn => exact whenRunning_keeps h (fun _ => h.confirmReturn) he
  case admissionTest =>
    simp only [exec, execAdmissionTest] at he
    refine whenRunning_keeps h (fun _ => ?_) he
    exact ite (fun _ => h) h.tryClaim
  case holdExpiry => exact whenRunning_keeps h (fun _ => h.holdEnd) he
  case shedSettleExpiry =>
    refine whenRunning_keeps h (fun _ => ite (fun _ => ?_) h) he
    exact LineSound.overcommitTest (h.congr ⟨rfl, rfl, rfl, rfl⟩)
  case heatPeriodStart =>
    exact whenRunning_keeps h (fun _ => ite (fun _ => h.releaseMarked.congr (by simp)) h) he
  case doorOpening => exact whenRunning_keeps h (fun _ => ite (fun _ => h.openDoor) h) he
  case mainsZcPulse => exact Host.Outcome.next.inj he ▸ ite (fun _ => h.pulse) h
  case vholdReading x => exact Host.Outcome.next.inj he ▸ h.newReading x
  case coldStart => exact Host.Outcome.next.inj he ▸ .of_started rfl rfl
  case coreSupplyFail => exact Host.Outcome.next.inj he ▸ ite (fun _ => h) (.of_started rfl rfl)
  case resetN => exact Host.Outcome.next.inj he ▸ ite (fun _ => h.holdReset) h
  case pinStart => exact Host.Outcome.next.inj he ▸ ite (fun _ => .of_started rfl rfl) h
  case recoveryScan => exact Host.Outcome.next.inj he ▸ ite (fun _ => h.congr ⟨rfl, rfl, rfl, rfl⟩) h
  case writeComplete =>
    refine Host.Outcome.next.inj he ▸ h.congr ?_
    (repeat' split) <;> simp
  case attemptStart | arbitrationLost | bitError | lineHeld | frameSent | frameReceived | presenceDue | joinSlot
    | joinWindowEnd | peerSilent | peerRemoved =>
    cases hc
  all_goals
    simp only [exec, execJournalInterval, execFreshnessExpiry, execLossTimerSecond, execChargingConversionStart,
      execChargingConversionEnd, execRefreshStart, execRefreshEnd, execSpacingElapsed, execRampElapsed,
      execWaitingAgeSecond, execOnTimeEnd, execDoorClosing] at he
    refine whenRunning_keeps h (fun _ => h.congr ?_) he
    (repeat' split) <;> simp

end LineSound

/-- Settles O10, operation by operation of the line's. -/
theorem lineKept : Obligations.LineKept := by
  intro s t h he
  unfold step at he
  split at he
  · rename_i c rest _
    have front : LineSound { s with pending := rest } := h.congr ⟨rfl, rfl, rfl, rfl⟩
    exact front.exec_keeps he
  · exact Host.Outcome.next.inj he ▸ h.idle

end Sys2Proof.Machine
end

section
/-! Claims withdrawn, made and granted (R100, R122 to R129, R137, R142, R144). -/

namespace Sys2Proof.Machine

variable {s t : State}

/-! ## A claim withdrawn (R127) -/

theorem announcedStep_sending {n u : Nat} (h : s.admission.claim = .sending n u) : announcedStep s = some n := by
  simp [announcedStep, h]

theorem announcedStep_holding {n u k : Nat} (h : s.admission.claim = .holding n u k) : announcedStep s = some n := by
  simp [announcedStep, h]

theorem announcedStep_eq_none_iff : announcedStep s = none ↔ s.admission.claim = .unannounced := by
  unfold announcedStep
  split <;> simp_all

theorem withdrawClaim_of_unannounced (h : announcedStep s = none) : withdrawClaim s = s := by
  simp [withdrawClaim, h]

/-- R127, in the words of the statements. -/
theorem withdrawClaim_claimWithdrawn {n : Nat} (h : announcedStep s = some n) :
    ClaimWithdrawn n s (withdrawClaim s) := by
  have frame := (withdrawClaim_withdrawalFrame s).2 n h
  refine ⟨?_, frame, onlyFrames_of (by simp), fun b hb => by cases b <;> simp_all [Block.Same]⟩
  simp [withdrawClaim, h]

/-- A claim withdrawn under a condition on its step. -/
theorem withdrawnWhen_of {bad : Nat → Prop} (gone : ∀ n, announcedStep s = some n → bad n → t = withdrawClaim s)
    (stays : (∀ n, announcedStep s = some n → ¬ bad n) → t = s) : WithdrawnWhen bad s t :=
  ⟨fun n hn hb => gone n hn hb ▸ withdrawClaim_claimWithdrawn hn, stays⟩

/-! ## The admission test (R124) -/

theorem urgency_of_unannounced (h : s.admission.claim = .unannounced) :
    urgency s = min 15 (s.context.base + oldestAge s / 30) := by
  simp [urgency, h, Config.urgencyLimit, Config.urgencyAgeSeconds]

section
variable {p : StepRequest} {rest : List StepRequest}

theorem tryClaim_passed (hc : s.admission.claim = .unannounced) (hp : s.admission.pending = p :: rest)
    (free : withdrawnUnderAttempt s = false) (passes : TestPasses s p.step (arbOf s (urgency s))) :
    tryClaim s = offer (frameOfStep .claim p.step s)
      { s with admission := { s.admission with claim := .sending p.step (urgency s) } } := by
  simp only [tryClaim, hc, hp, free, (admissionPasses_iff s _ _).mpr passes, Bool.false_eq_true, if_false, if_true]
  rfl

theorem tryClaim_failed (hp : s.admission.pending = p :: rest)
    (fails : withdrawnUnderAttempt s = true ∨ ¬ TestPasses s p.step (arbOf s (urgency s))) : tryClaim s = s := by
  obtain same | ⟨q, _, -, hq, free, passes, -⟩ := tryClaim_cases s
  · exact same
  · obtain ⟨rfl, -⟩ := List.cons.inj (hp.symm.trans hq)
    obtain away | fails := fails
    · simp [free] at away
    · exact absurd ((admissionPasses_iff s _ _).mp passes) fails

end

theorem exec_admissionTest (hp : s.power = .running) :
    exec .admissionTest s = .next (if s.admission.testAtTick then s else tryClaim s) :=
  congrArg _ (if_pos hp)

/-- Settles O55: the test of the lowest pending step, passed or not. -/
theorem admissionTestClaims : Obligations.AdmissionTestClaims := by
  intro s p rest hp _ hc hpend u a made
  have hu : urgency s = u := urgency_of_unannounced hc
  have ha : arbOf s (urgency s) = a := by rw [hu]; rfl
  rw [exec_admissionTest hp]
  refine ⟨fun ⟨due, free⟩ passes => ?_, fun early => ?_⟩
  · have claimed := tryClaim_passed hc hpend free (ha.symm ▸ passes)
    refine ⟨_, congrArg _ ((if_neg (by simp [due])).trans claimed), by simp [hu], ?_, onlyFrames_of (by simp),
      fun b hb => by cases b <;> simp_all [Block.Same]⟩
    exact offer_frameOffered { s with admission := { s.admission with claim := .sending p.step (urgency s) } } _ nofun
  · refine congrArg _ ?_
    split
    · rfl
    · rename_i due
      refine tryClaim_failed hpend (early.imp (fun put => ?_) fun fails => ha.symm ▸ fails)
      simpa [made, due] using put

/-! ## The grant (R126, R137, R144) -/

/-- R137, in the words of the statements. -/
theorem ductTest_ductTested (s : State) : DuctTested s (ductTest s) := by
  refine ⟨fun within => ?_, fun past marked => ?_, fun past unmarked => ?_⟩ <;>
    rw [ductTest_eq] <;> simp only [peersDuct]
  · have none_past : ¬ (cfg s).ductLimit < ownDuct s + (s.view.map (·.duct)).sum := Nat.not_lt.mpr within
    simp [none_past]
  · have same : s = { s with admission := { s.admission with ductEpisode := true } } := by rw [← marked]
    simpa [past, marked] using same.symm
  · simp [past, unmarked]

/-- The step of an announced claim is the one above the held steps, and the lowest pending request is for it. -/
theorem ClaimSound.claimed_step {n : Nat} {p : StepRequest} {rest : List StepRequest} (hcl : ClaimSound s)
    (hs : StepsSound s) (hn : announcedStep s = some n) (hp : s.admission.pending = p :: rest) :
    p.step = n ∧ n = heldLen s + 1 ∧ n ≤ 6 ∧ s.admission.pending.filter (fun q => q.step != n) = rest := by
  obtain ⟨head, held, -⟩ := hcl.claimed n hn
  have step : p.step = n := by simpa [hp] using head
  obtain ⟨above, six⟩ := hs.pendingAbove p (by simp [hp])
  have below : n ≤ heldLen s + 1 := by
    simp only [prerequisiteHeld, heldUnmarked, Bool.or_eq_true, decide_eq_true_eq, Bool.and_eq_true] at held
    obtain first | ⟨-, held⟩ := held
    · omega
    · by_contra far
      rw [List.getElem?_eq_none (by unfold heldLen at far; omega)] at held
      cases held
  refine ⟨step, by omega, by omega, ?_⟩
  have rising := hs.pendingRising
  rw [hp, List.pairwise_cons] at rising
  rw [hp, List.filter_cons_of_neg (by simp [step]), List.filter_eq_self]
  intro q hq
  have later := rising.1 q hq
  simp only [bne_iff_ne]
  omega

section
variable {p : StepRequest} {rest : List StepRequest}

theorem granted_admission (hp : s.admission.pending.filter (fun q => q.step != p.step) = rest) :
    (s.granted p).admission = { s.admission with
      held := s.admission.held ++ [⟨p.tag, false⟩], pending := rest, claim := .unannounced
      spacing := if p.step ≤ 2 then some 0 else s.admission.spacing
      ramp := if p.step ≤ 2 then s.admission.ramp else some 0 } := by
  unfold State.granted restartGrantTimer
  dsimp only
  split <;> simp [hp]

theorem granted_port (p : StepRequest) (s : State) : (s.granted p).port = { s.port with
    events := s.port.events ++ [.completion p.tag 0x03 .granted (byte8 p.step) 0] } := by
  simp [State.granted, completeStep, addEvent]
  rfl

theorem granted_permits (p : StepRequest) (s : State) : (s.granted p).permits =
    (permitsAtGrant p.step
      { s with admission := { s.admission with held := s.admission.held ++ [⟨p.tag, false⟩] } }).permits := by
  simp [State.granted]

/-- A motor grant raises its own permit (R142). -/
theorem granted_permits_motor (motor : p.step ≤ 2) (next : p.step = heldLen s + 1) :
    (s.granted p).permits = { s.permits with drum := true, air := decide (p.step = 2) } := by
  have air : decide (2 ≤ p.step) = decide (p.step = 2) := by
    rw [decide_eq_decide]
    omega
  rw [granted_permits, permitsAtGrant, if_pos motor, ← air, next]
  simp [followSteps, heldLen]

/-- A heat grant starts the heat period where no duty runs, and is timed by the next one otherwise (R144). -/
theorem granted_permits_heat (heat : 3 ≤ p.step) (next : p.step = heldLen s + 1) (sound : PermitsSound s)
    (hp : s.power = .running) :
    (s.granted p).permits = if s.permits.duty = 0 then { s.permits with
        duty := p.step - 2, period := some 0, blank := false
        heat := decide (0 < (cfg s).heatPeriod * 100 * (p.step - 2) / 4) }
      else s.permits := by
  obtain ⟨drum, air⟩ := sound.follow (by simp [hp])
  replace drum : s.permits.drum = true := drum.trans (decide_eq_true (by omega))
  replace air : s.permits.air = true := air.trans (decide_eq_true (by omega))
  have closed : s.permits.doorOpen = false := by
    by_contra opened
    obtain ⟨none_held, -⟩ := sound.door (by simpa using opened)
    simp [heldLen, none_held] at next
    omega
  have motorless : ¬ p.step ≤ 2 := by omega
  rw [granted_permits, permitsAtGrant, if_neg motorless, heatGrant, next]
  dsimp only
  split
  · simp [heatLevel, onTime, Config.ticksPerSecond, heatCount, heldLen, cfg, drum, air, closed]
  · rfl

end

theorem exec_holdExpiry (hp : s.power = .running) : exec .holdExpiry s = .next (holdEnd s) :=
  whenRunning_running _ hp

theorem holdEnd_early {n u k : Nat} (hc : s.admission.claim = .holding n u k) (early : k < 30) : holdEnd s = s := by
  simp [holdEnd, hc, Config.holdTicks, early]

theorem holdEnd_failed {n u k : Nat} (hc : s.admission.claim = .holding n u k) (past : 30 ≤ k)
    (fails : ¬ TestPasses s n (arbOf s u)) : holdEnd s = withdrawClaim s := by
  have refused : admissionPasses s n (arbOf s u) = false := by
    rwa [← Bool.not_eq_true, admissionPasses_iff]
  have late : ¬ k < Config.holdTicks := Nat.not_lt.mpr past
  simp only [holdEnd, hc, late, if_false, refused, Bool.false_eq_true]
  split <;> rfl

/-- A grant outside RESUMING has nothing to finalise. -/
theorem grant_running {p : StepRequest} (hc : s.context.cycleState = .running) : grant p s = grantStep p s :=
  if_neg (by simp [hc])

/-- Settles O56: the count, the test with the frozen A, and the grant's own steps. -/
theorem holdExpires : Obligations.HoldExpires := by
  intro s n u k hp _ hclaim a
  have announced := announcedStep_holding hclaim
  rw [exec_holdExpiry hp]
  refine ⟨fun early => congrArg _ (holdEnd_early hclaim early), fun p rest past hl hcl hpend passes hc => ?_,
    fun past fails => ⟨_, congrArg _ (holdEnd_failed hclaim past fails), withdrawClaim_claimWithdrawn announced⟩⟩
  obtain ⟨rfl, next, -, left⟩ := hcl.claimed_step hl.1 announced hpend
  have ended : holdEnd s = ductTest (s.granted p) :=
    (holdEnd_passed hclaim past (by simp [hpend]) passes).trans (grant_running hc)
  have heat := fun three : 3 ≤ p.step => granted_permits_heat three next hl.2 hp
  refine ⟨_, s.granted p, congrArg _ ended, ductTest_ductTested _, granted_admission left,
    fun motor => granted_permits_motor motor next, fun three duty => ?_, fun three idle => ?_,
    granted_frameOffered p s, ?_, granted_port p s, ?_⟩
  · rw [heat three, if_neg (by omega)]
  · rw [heat three, if_pos idle]
    exact ⟨rfl, rfl, rfl, decide_eq_true_iff⟩
  · exact onlyFrames_of (by simp [State.granted])
  · exact fun b hb => by cases b <;> simp_all [Block.Same, State.granted]

end Sys2Proof.Machine
end

section
/-! Releases from any step up (R93, R122, R127, R132 to R134, R146): the steps, the permits, the chain above them, the
claim and the frames. -/

namespace Sys2Proof.Machine

variable {s t : State}

/-! ## The invariants look at their own blocks alone -/

theorem StepsSound.congr (h : StepsSound s) (ha : t.admission = s.admission) : StepsSound t := by
  have length : heldLen t = heldLen s := heldLen_congr (by rw [ha])
  refine ⟨length ▸ h.heldSix, ?_, ?_, ?_, ?_⟩ <;> rw [ha]
  exacts [h.marksOnHeat, h.marksUpward, h.pendingRising, length ▸ h.pendingAbove]

theorem PermitsSound.congr (h : PermitsSound s) (ha : t.admission = s.admission) (hp : t.permits = s.permits)
    (power : t.power = s.power) : PermitsSound t := by
  have length : heldLen t = heldLen s := heldLen_congr (by rw [ha])
  have heat : heatCount t = heatCount s := heatCount_congr (by rw [ha])
  refine ⟨?_, ?_, ?_, ?_, ?_, ?_, ?_, ?_⟩ <;> simp only [ha, hp, power, length, heat]
  exacts [h.follow, h.resetLow, h.interlock, h.dutyHeld, h.dutyStarts, h.counter, h.blankDuty, h.door]

theorem LoadsSound.congr (h : LoadsSound s) (ha : t.admission = s.admission) (hp : t.permits = s.permits)
    (power : t.power = s.power) : LoadsSound t :=
  ⟨h.1.congr ha, h.2.congr ha hp power⟩

theorem ClaimSound.congr (h : ClaimSound s) (ha : t.admission = s.admission) (mode : t.line.mode = s.line.mode)
    (cycle : t.context.cycleState = s.context.cycleState) (power : t.power = s.power) : ClaimSound t := by
  have announced : announcedStep t = announcedStep s := by simp [announcedStep, ha]
  have prerequisite := prerequisiteHeld_congr (t := t) (s := s) (by rw [ha])
  have pending := isPending_congr (t := t) (s := s) (by rw [ha])
  refine ⟨?_, ?_, ?_, ?_, ?_, ?_⟩ <;> simp only [ha, mode, cycle, power, announced, prerequisite, pending]
  exacts [h.claimed, h.heldMode, h.heldCycle, h.pendingCycle, h.scanEmpty, h.chained]

/-! ## The chain of pending requests (R122) -/

/-- A pending list whose lower part is chained and whose upper part is not. -/
theorem splitChain_append {heldBelow : Nat → Bool} {low high : List StepRequest} {kept : List Nat}
    (rising : low.Pairwise (fun p q => p.step < q.step)) (one : ∀ p ∈ low, 1 ≤ p.step)
    (chained : ∀ p ∈ low, heldBelow p.step = true ∨ p.step - 1 ∈ kept ∨ ∃ q ∈ low, q.step = p.step - 1)
    (orphan : ∀ p ∈ high, heldBelow p.step = false ∧ p.step - 1 ∉ kept ∧ ∀ q ∈ low, q.step ≠ p.step - 1) :
    splitChain heldBelow (low ++ high) kept = (low, high) := by
  induction low generalizing kept with
  | nil =>
    induction high with
    | nil => rfl
    | cons p rest ih =>
      obtain ⟨held, below, -⟩ := orphan p List.mem_cons_self
      rw [List.nil_append] at ih ⊢
      rw [splitChain, ih fun q hq => orphan q (List.mem_cons_of_mem p hq)]
      simp [held, below]
  | cons p rest ih =>
    obtain ⟨above, rising⟩ := List.pairwise_cons.mp rising
    have first : heldBelow p.step = true ∨ p.step - 1 ∈ kept := by
      obtain held | below | ⟨q, hq, step⟩ := chained p List.mem_cons_self
      · exact .inl held
      · exact .inr below
      · have positive := one p List.mem_cons_self
        obtain rfl | hq := List.mem_cons.mp hq
        · omega
        · have later := above q hq
          omega
    have others := ih (kept := p.step :: kept) rising (fun q hq => one q (List.mem_cons_of_mem p hq)) (fun q hq => ?_)
      fun q hq => ?_
    · have goes : (heldBelow p.step || kept.contains (p.step - 1)) = true := by simpa using first
      rw [List.cons_append, splitChain, if_pos goes, others]
    · obtain held | below | ⟨x, hx, step⟩ := chained q (List.mem_cons_of_mem p hq)
      · exact .inl held
      · exact .inr (.inl (List.mem_cons_of_mem _ below))
      · obtain rfl | hx := List.mem_cons.mp hx
        · exact .inr (.inl (by simp [step]))
        · exact .inr (.inr ⟨x, hx, step⟩)
    · obtain ⟨held, below, none_low⟩ := orphan q hq
      refine ⟨held, fun hk => ?_, fun x hx => none_low x (List.mem_cons_of_mem p hx)⟩
      obtain same | hk := List.mem_cons.mp hk
      · exact none_low p List.mem_cons_self same.symm
      · exact below hk

/-- With every pending request an orphan all of them go, and the claim with them. -/
theorem settleChain_of_orphans (h : ∀ p ∈ s.admission.pending, prerequisiteHeld s p.step = false) :
    settleChain s = withdrawClaim (completeAllPending .cancelled s) := by
  rw [settleChain_eq, splitChain_orphans h, withdrawUnfounded_of_empty rfl, completeAllPending_eq]

theorem prerequisiteHeld_of_above {n : Nat} (low : heldLen s + 1 < n) : prerequisiteHeld s n = false := by
  have beyond : s.admission.held[n - 1 - 1]? = none := List.getElem?_eq_none (by unfold heldLen at low; omega)
  have other : n ≠ 1 := by omega
  simp [prerequisiteHeld, heldUnmarked, beyond, other]

/-- The part once all of its pending requests have been cancelled and the claim withdrawn. -/
def State.unchained (s : State) : State := withdrawClaim (completeAllPending .cancelled s)

theorem unchained_admission (s : State) :
    s.unchained.admission = { s.admission with pending := [], claim := .unannounced } := by
  rw [State.unchained, withdrawClaim_admission (by rw [completeAllPending_eq]), completeAllPending_eq]

theorem unchained_port (s : State) : s.unchained.port = { s.port with
    events := s.port.events ++ stepCompletions .cancelled s.admission.pending } := by
  rw [State.unchained, withdrawClaim_port, completeAllPending_eq]
  rfl

theorem unchained_permits (s : State) : s.unchained.permits = s.permits := by
  simp [State.unchained]

theorem unchained_withdrawalFrame (s : State) : WithdrawalFrame s s.line s.unchained.line := by
  have frame := withdrawClaim_withdrawalFrame (completeAllPending .cancelled s)
  rw [completeAllPending_eq] at frame
  unfold State.unchained
  rw [completeAllPending_eq]
  exact frame.congr rfl rfl

/-! ## The steps and the permits (R132, R142, R146) -/

theorem releaseAtOnce_admission (low : Nat) (s : State) : (releaseAtOnce low s).admission =
    { s.admission with held := s.admission.held.take (low - 1) } := by
  obtain ⟨few, he⟩ | ⟨-, he⟩ := releaseAtOnce_cases s low
  · rw [he, List.take_of_length_le (by unfold heldLen at few; omega)]
  · rw [he]
    simp [takeAway]

theorem releaseAtOnce_permits {low : Nat} (many : low ≤ heldLen s) :
    (releaseAtOnce low s).permits = (takeAway low s).permits := by
  rw [releaseAtOnce, if_pos many]
  simp

/-- The permits once `n` steps are left of more: a forced drop where heat went, and the levels of the steps. -/
theorem takeAway_permits {low n : Nat} (hn : (s.admission.held.take (low - 1)).length = n) :
    (takeAway low s).permits = { (if n - 2 < heatCount s then { s.permits with
        heat := false, duty := n - 2, period := if n - 2 = 0 then none else s.permits.period
        blank := decide (n - 2 ≠ 0) } else s.permits) with
      drum := decide (1 ≤ n), air := decide (2 ≤ n) } := by
  have kept (b : Nat) (u : State) : heldLen (forcedDrop b u) = heldLen u := heldLen_congr (by simp)
  simp only [takeAway, followSteps, kept]
  by_cases fewer : n - 2 < s.admission.held.length - 2 <;> simp [forcedDrop, heatCount, heldLen, hn, fewer]

theorem length_take_held {low : Nat} (many : low ≤ heldLen s) :
    (s.admission.held.take (low - 1)).length = low - 1 := by
  rw [List.length_take]
  unfold heldLen at many
  omega

/-- A release that takes DRUM or AIR takes all heat with it (R132, R146). -/
theorem releaseAtOnce_permits_motor {low : Nat} (one : 1 ≤ low) (motor : low ≤ 2) (many : low ≤ heldLen s)
    (sound : PermitsSound s) : (releaseAtOnce low s).permits = { s.permits with
      drum := decide (low = 2), air := false, heat := false, duty := 0, period := none, blank := false } := by
  have drum : decide (1 ≤ low - 1) = decide (low = 2) := by
    rw [decide_eq_decide]
    omega
  have air : decide (2 ≤ low - 1) = false := decide_eq_false (by omega)
  have none_left : low - 1 - 2 = 0 := by omega
  rw [releaseAtOnce_permits many, takeAway_permits (length_take_held many), drum, air, none_left]
  split
  · rfl
  · obtain ⟨heat, duty, period, blank⟩ := sound.noHeat (by omega)
    simp only [heat, duty, period, blank]

/-- A release of heat alone is a forced drop of the heat output (R146). -/
theorem releaseAtOnce_permits_heat {low : Nat} (three : 3 ≤ low) (many : low ≤ heldLen s) (sound : PermitsSound s)
    (hp : s.power = .running) : (releaseAtOnce low s).permits = { s.permits with
      heat := false, duty := low - 3, period := if low = 3 then none else s.permits.period
      blank := decide (low ≠ 3) } := by
  obtain ⟨drum, air⟩ := sound.follow (by simp [hp])
  have drum' : decide (1 ≤ low - 1) = s.permits.drum := by rw [drum, decide_eq_decide]; omega
  have air' : decide (2 ≤ low - 1) = s.permits.air := by rw [air, decide_eq_decide]; omega
  have fewer : low - 1 - 2 < heatCount s := by unfold heatCount; omega
  have duty : low - 1 - 2 = low - 3 := by omega
  have last : low - 3 = 0 ↔ low = 3 := by omega
  rw [releaseAtOnce_permits many, takeAway_permits (length_take_held many), if_pos fewer, drum', air', duty]
  simp only [last, ne_eq]

theorem finishWaiters_admission {n : Nat} (h : heldLen s = n) : (finishWaiters s).admission =
    { s.admission with waiters := s.admission.waiters.filter (fun w => w.step ≤ n) } := by
  have kept : (fun w : Waiter => !decide (heldLen s < w.step)) = fun w => decide (w.step ≤ n) := by
    funext w
    simp only [h, ← decide_not, Nat.not_lt]
  rw [finishWaiters_eq, kept]

theorem finishWaiters_port {n : Nat} (h : heldLen s = n) : (finishWaiters s).port = { s.port with
    events := s.port.events ++ waiterCompletions (s.admission.waiters.filter (fun w => n < w.step)) } := by
  rw [finishWaiters_eq, h]
  rfl

/-- Once a step below them has been released, no pending request has its prerequisite held. -/
theorem releaseAtOnce_orphans {low : Nat} (hs : StepsSound s) (one : 1 ≤ low) (many : low ≤ heldLen s) :
    heldLen (releaseAtOnce low s) = low - 1
    ∧ ∀ p ∈ s.admission.pending, prerequisiteHeld (releaseAtOnce low s) p.step = false := by
  have length : heldLen (releaseAtOnce low s) = low - 1 := by
    rw [heldLen, releaseAtOnce_admission, length_take_held many]
  refine ⟨length, fun p hp => prerequisiteHeld_of_above ?_⟩
  have above := (hs.pendingAbove p hp).1
  omega

end Sys2Proof.Machine
end

section
/-! DROP_STEP of a pending step and of held ones (R122, R127, R130 to R133, R146). -/

namespace Sys2Proof.Machine

variable {s : State} {r : Request} {rest : List Request}

theorem not_isPending_of_held {n : Nat} (hs : StepsSound s) (held : n ≤ heldLen s) : isPending s n = false := by
  simp only [isPending, List.any_eq_false, beq_iff_eq]
  intro p hp
  have above := (hs.pendingAbove p hp).1
  omega

/-! ## A pending step (R131) -/

/-- A rising pending list taken apart at one of its steps. -/
theorem pending_split {l : List StepRequest} {n : Nat} (rising : l.Pairwise (fun p q => p.step < q.step))
    (h : ∃ p ∈ l, p.step = n) : ∃ low p high, l = low ++ p :: high ∧ p.step = n
      ∧ (∀ q ∈ low, q.step < n) ∧ ∀ q ∈ high, n < q.step := by
  obtain ⟨p, hp, rfl⟩ := h
  obtain ⟨low, high, rfl⟩ := List.append_of_mem hp
  obtain ⟨-, above, below⟩ := List.pairwise_append.mp rising
  exact ⟨low, p, high, rfl, rfl, fun q hq => below q hq p List.mem_cons_self, (List.pairwise_cons.mp above).1⟩

section
variable {low high : List StepRequest} {p : StepRequest} {n : Nat}

theorem filter_lt_of_split (hp : p.step = n) (below : ∀ q ∈ low, q.step < n) (above : ∀ q ∈ high, n < q.step) :
    (low ++ p :: high).filter (fun q => q.step < n) = low := by
  have first : low.filter (fun q => decide (q.step < n)) = low := List.filter_eq_self.mpr (by simpa using below)
  have last : high.filter (fun q => decide (q.step < n)) = [] :=
    List.filter_eq_nil_iff.mpr fun q hq => by simpa using (above q hq).le
  simp [first, last, hp]

theorem filter_ge_of_split (hp : p.step = n) (below : ∀ q ∈ low, q.step < n) (above : ∀ q ∈ high, n < q.step) :
    (low ++ p :: high).filter (fun q => n ≤ q.step) = p :: high := by
  have first : low.filter (fun q => decide (n ≤ q.step)) = [] :=
    List.filter_eq_nil_iff.mpr fun q hq => by simpa using below q hq
  have last : high.filter (fun q => decide (n ≤ q.step)) = high :=
    List.filter_eq_self.mpr fun q hq => by simpa using (above q hq).le
  simp [first, last, hp]

theorem filter_ne_of_split (hp : p.step = n) (below : ∀ q ∈ low, q.step < n) (above : ∀ q ∈ high, n < q.step) :
    (low ++ p :: high).filter (fun q => q.step != n) = low ++ high := by
  have first : low.filter (fun q => q.step != n) = low :=
    List.filter_eq_self.mpr fun q hq => by simpa using (below q hq).ne
  have last : high.filter (fun q => q.step != n) = high :=
    List.filter_eq_self.mpr fun q hq => by simpa using (above q hq).ne'
  simp [first, last, hp]

theorem find?_of_split (hp : p.step = n) (below : ∀ q ∈ low, q.step < n) :
    (low ++ p :: high).find? (fun q => q.step == n) = some p := by
  have first : low.find? (fun q => q.step == n) = none :=
    List.find?_eq_none.mpr fun q hq => by simpa using (below q hq).ne
  simp [first, hp]

/-- A pending step and the chain above it cancelled (R131, R122). -/
theorem settleChain_cancelStep (hs : StepsSound s) (hcl : ClaimSound s) (hl : s.admission.pending = low ++ p :: high)
    (hp : p.step = n) (below : ∀ q ∈ low, q.step < n) (above : ∀ q ∈ high, n < q.step) :
    settleChain (cancelStep n s) = withdrawUnfounded { s with
      admission := { s.admission with pending := low }
      port := { s.port with events := s.port.events ++ stepCompletions .cancelled (p :: high) } } := by
  have six := (hs.pendingAbove p (by simp [hl])).1
  have left : cancelStep n s = completeStep .cancelled p
      { s with admission := { s.admission with pending := low ++ high } } := by
    simp [cancelStep, hl, find?_of_split hp below, filter_ne_of_split hp below above]
  have rising := hs.pendingRising
  rw [hl] at rising
  have split : splitChain (prerequisiteHeld s) (low ++ high) [] = (low, high) := by
    refine splitChain_append (List.pairwise_append.mp rising).1 (fun q hq => ?_) (fun q hq => ?_) fun q hq => ?_
    · have held := (hs.pendingAbove q (by simp [hl, hq])).1
      omega
    · obtain held | waits := hcl.chained q (by simp [hl, hq])
      · exact .inl held
      · simp only [isPending, hl, List.any_eq_true, beq_iff_eq] at waits
        obtain ⟨x, hx, step⟩ := waits
        have under := below q hq
        obtain hx | hx := List.mem_append.mp hx
        · exact .inr (.inr ⟨x, hx, step⟩)
        · obtain rfl | hx := List.mem_cons.mp hx
          · omega
          · have later := above x hx
            omega
    · have later := above q hq
      refine ⟨prerequisiteHeld_of_above (by omega), List.not_mem_nil, fun x hx => ?_⟩
      have under := below x hx
      omega
  have same : prerequisiteHeld (cancelStep n s) = prerequisiteHeld s := by
    funext m
    exact prerequisiteHeld_congr (by simp) m
  have waits : (cancelStep n s).admission.pending = low ++ high := by simp [left]
  rw [settleChain_eq, same, waits, split, left]
  simp [completeStep, addEvent, stepCompletions]

end

theorem withdrawUnfounded_of_pending {n : Nat} (hn : announcedStep s = some n) (waits : isPending s n = true)
    (held : prerequisiteHeld s n = true) : withdrawUnfounded s = s := by
  simp [withdrawUnfounded, hn, waits, held]

theorem withdrawUnfounded_of_gone {n : Nat} (hn : announcedStep s = some n) (gone : isPending s n = false) :
    withdrawUnfounded s = withdrawClaim s := by
  simp [withdrawUnfounded, hn, gone]

theorem withdrawUnfounded_of_unannounced (hn : announcedStep s = none) : withdrawUnfounded s = s := by
  simp [withdrawUnfounded, hn]

/-- The claim after the pending requests from step `n` up have gone: withdrawn where it was for one of them, and
otherwise left (R127). -/
theorem withdrawUnfounded_outcome {n : Nat} {low high : List StepRequest} {port : Port} (hcl : ClaimSound s)
    (hl : s.admission.pending = low ++ high) (below : ∀ q ∈ low, q.step < n) (above : ∀ q ∈ high, n ≤ q.step) :
    let u : State := { s with admission := { s.admission with pending := low }, port := port }
    (∀ m, announcedStep s = some m → n ≤ m →
        (withdrawUnfounded u).admission = { s.admission with pending := low, claim := .unannounced }
        ∧ FrameWithdrawn (frameOfStep .withdrawn m s) s.line (withdrawUnfounded u).line)
    ∧ ((∀ m, announcedStep s = some m → m < n) → withdrawUnfounded u = u) := by
  intro u
  refine ⟨fun m hm le => ?_, fun lower => ?_⟩
  · have gone : isPending u m = false := by
      simp only [isPending, u, List.any_eq_false, beq_iff_eq]
      intro q hq
      have under := below q hq
      omega
    obtain ⟨admission, frame, -⟩ := withdrawClaim_claimWithdrawn (s := u) hm
    rw [withdrawUnfounded_of_gone (s := u) hm gone]
    rw [gone, Bool.or_false] at admission
    exact ⟨admission, frame⟩
  · cases hm : announcedStep s with
    | none => exact withdrawUnfounded_of_unannounced hm
    | some m =>
      obtain ⟨head, prerequisite, -⟩ := hcl.claimed m hm
      have under := lower m hm
      rw [hl] at head
      refine withdrawUnfounded_of_pending (n := m) hm ?_ prerequisite
      cases low with
      | nil =>
        obtain ⟨p, hp, step⟩ := Option.map_eq_some_iff.mp head
        have upper := above p (List.mem_of_mem_head? hp)
        omega
      | cons q others =>
        have step : q.step = m := by simpa using head
        simp [isPending, u, step]

/-- What the cancelling of a pending step leaves (R131). -/
theorem settleChain_cancelStep_outcome {n : Nat} (hs : StepsSound s) (hcl : ClaimSound s)
    (waits : isPending s n = true) :
    let t := settleChain (cancelStep n s)
    t.admission = { s.admission with
        pending := s.admission.pending.filter (fun p => p.step < n), claim := t.admission.claim }
    ∧ (∀ m, announcedStep s = some m → n ≤ m → t.admission.claim = .unannounced
        ∧ FrameWithdrawn (frameOfStep .withdrawn m s) s.line t.line)
    ∧ ((∀ m, announcedStep s = some m → m < n) → t.admission.claim = s.admission.claim ∧ t.line = s.line)
    ∧ t.port = { s.port with
        events := s.port.events
          ++ stepCompletions .cancelled (s.admission.pending.filter (fun p => n ≤ p.step)) } := by
  obtain ⟨low, p, high, list, step, below, above⟩ := pending_split (n := n) hs.pendingRising
    (by simpa [isPending] using waits)
  have upper : ∀ q ∈ p :: high, n ≤ q.step := fun q hq => by
    obtain rfl | hq := List.mem_cons.mp hq
    · omega
    · exact (above q hq).le
  dsimp only
  rw [settleChain_cancelStep hs hcl list step below above]
  obtain ⟨leaves, stays⟩ := withdrawUnfounded_outcome hcl list below upper
    (port := { s.port with events := s.port.events ++ stepCompletions .cancelled (p :: high) })
  rw [list, filter_lt_of_split step below above, filter_ge_of_split step below above]
  refine ⟨?_, fun m hm le => ?_, fun lower => ?_, by simp⟩
  · by_cases gone : ∃ m, announcedStep s = some m ∧ n ≤ m
    · obtain ⟨m, hm, le⟩ := gone
      rw [(leaves m hm le).1]
    · rw [stays fun m hm => by_contra fun le => gone ⟨m, hm, Nat.not_lt.mp le⟩]
  · obtain ⟨admission, frame⟩ := leaves m hm le
    rw [admission]
    exact ⟨rfl, frame⟩
  · rw [stays lower]
    exact ⟨rfl, rfl⟩

theorem dropStepOwner_pending (hn : 1 ≤ r.param.toNat ∧ r.param.toNat ≤ 6)
    (waits : isPending s r.param.toNat = true) :
    dropStepOwner r s = completeService .done 0 (settleChain (cancelStep r.param.toNat s)) := by
  have good : ¬ (r.param.toNat < 1 ∨ Config.stepCount < r.param.toNat) := by simp only [Config.stepCount]; omega
  simp only [dropStepOwner, good, if_false, waits, if_true]

theorem stepByte_of_dropStep (hk : r.kind = RequestKind.dropStep.code) : r.stepByte = r.param := by
  simp [Request.stepByte, hk]

/-- Settles O29: the chain from the dropped step up, and the claim where it was for one of its steps. -/
theorem dropPendingStep : Obligations.DropPendingStep := by
  intro s r rest h hl hcl waits n
  have some_step : 1 ≤ n ∧ n ≤ 6 := by
    obtain ⟨p, hp, step⟩ : ∃ p ∈ s.admission.pending, p.step = n := by simpa [isPending] using waits
    have bounds := hl.1.pendingAbove p hp
    omega
  have done := (exec_served h).trans (congrArg _ (dropStepOwner_pending (s := s.serving r rest) some_step waits))
  have keeps : KeepsAllBut [.admission, .port, .line] s
      (completeService .done 0 (settleChain (cancelStep n (s.serving r rest)))) := fun b hb => by
    cases b <;> simp_all [Block.Same, State.serving]
  obtain ⟨admission, leaves, stays, port⟩ := settleChain_cancelStep_outcome (s := s.serving r rest)
    (hl.1.congr rfl) (hcl.congr rfl rfl rfl rfl) waits
  refine ⟨_, done, ?_, onlyFrames_of (by simp [State.serving]), ?_, ?_, ?_, keeps⟩
  · simpa using admission
  · simp only [completeService_frame]
    exact leaves
  · simp only [completeService_frame]
    exact stays
  · have completed := completeService_port .done h.free port
    rwa [stepByte_of_dropStep h.kind] at completed

/-! ## Held steps (R132, R133) -/

/-- The steps from `low` up released with the chain, the claim and the waiters settled after them (R132). -/
def State.releasedFrom (low : Nat) (s : State) : State := finishWaiters (releaseAtOnce low s).unchained

theorem releasedFrom_eq {low : Nat} (hs : StepsSound s) (one : 1 ≤ low) (many : low ≤ heldLen s) :
    finishWaiters (settleChain (releaseAtOnce low s)) = s.releasedFrom low := by
  have orphans := (releaseAtOnce_orphans hs one many).2
  rw [settleChain_of_orphans (by simpa using orphans)]
  rfl

theorem releasedFrom_outcome {low : Nat} (many : low ≤ heldLen s) :
    (s.releasedFrom low).admission = { s.admission with
        held := s.admission.held.take (low - 1), pending := [], claim := .unannounced
        waiters := s.admission.waiters.filter (fun w => w.step ≤ low - 1) }
    ∧ (s.releasedFrom low).port = { s.port with
        events := s.port.events ++ stepCompletions .cancelled s.admission.pending
          ++ waiterCompletions (s.admission.waiters.filter (fun w => low - 1 < w.step)) }
    ∧ ReleaseFrames low s s.line (s.releasedFrom low).line := by
  have admission := unchained_admission (releaseAtOnce low s)
  rw [releaseAtOnce_admission] at admission
  have length : heldLen (releaseAtOnce low s).unchained = low - 1 := by
    rw [heldLen, admission, length_take_held many]
  have frames := releaseFrames_of low (s := s) (s0 := s) (u := completeAllPending .cancelled (releaseAtOnce low s))
    ⟨rfl, rfl, rfl⟩ (by simp)
  refine ⟨?_, ?_, ?_⟩
  · rw [State.releasedFrom, finishWaiters_admission length, admission]
  · rw [State.releasedFrom, finishWaiters_port length, unchained_port, admission, releaseAtOnce_port,
      releaseAtOnce_admission]
  · simpa [State.releasedFrom, State.unchained] using frames

theorem dropStepOwner_motor (hs : StepsSound s) (one : 1 ≤ r.param.toNat) (motor : r.param.toNat ≤ 2)
    (held : r.param.toNat ≤ heldLen s) :
    dropStepOwner r s = completeService .done 0 (s.releasedFrom r.param.toNat) := by
  have good : ¬ (r.param.toNat < 1 ∨ Config.stepCount < r.param.toNat) := by simp only [Config.stepCount]; omega
  have idle : isPending s r.param.toNat = false := not_isPending_of_held hs held
  have holds : isHeld s r.param.toNat = true := decide_eq_true ⟨one, held⟩
  rw [← releasedFrom_eq hs one held]
  simp only [dropStepOwner, good, if_false, idle, Bool.false_eq_true, holds, motor, if_true]

/-- The part once the held steps from `low` up carry a mark and a waiter stands for them (R133). -/
def State.marked (low : Nat) (tag : Byte) (s : State) : State :=
  { s with admission := { s.admission with
      held := markFrom low s.admission.held, waiters := s.admission.waiters ++ [⟨low, tag⟩] } }

theorem markFrom_getElem? (low : Nat) (l : List HeldStep) (i : Nat) :
    (markFrom low l)[i]? = l[i]?.map fun h => { h with mark := h.mark || decide (low ≤ i + 1) } := by
  unfold markFrom
  rw [List.getElem?_mapIdx]
  congr 1
  funext h
  by_cases marks : low ≤ i + 1 <;> simp [marks]

/-- A pending step's prerequisite is one of the marked steps, or is not held. -/
theorem marked_orphans {low : Nat} (tag : Byte) (hs : StepsSound s) (one : 1 ≤ low) (held : low ≤ heldLen s) :
    ∀ p ∈ s.admission.pending, prerequisiteHeld (s.marked low tag) p.step = false := by
  intro p hp
  have above := (hs.pendingAbove p hp).1
  have marks : decide (low ≤ p.step - 1 - 1 + 1) = true := decide_eq_true (by omega)
  have other : p.step ≠ 1 := by omega
  have unmarked : ((s.marked low tag).admission.held[p.step - 1 - 1]?.map fun h => !h.mark).getD false = false := by
    simp only [State.marked, markFrom_getElem?, marks, Bool.or_true]
    cases s.admission.held[p.step - 1 - 1]? <;> rfl
  simp [prerequisiteHeld, heldUnmarked, other, unmarked]

theorem dropStepOwner_heat (hs : StepsSound s) (heat : 3 ≤ r.param.toNat) (held : r.param.toNat ≤ heldLen s) :
    dropStepOwner r s = ((leaveService s).marked r.param.toNat r.tag).unchained := by
  have six := hs.heldSix
  have good : ¬ (r.param.toNat < 1 ∨ Config.stepCount < r.param.toNat) := by simp only [Config.stepCount]; omega
  have idle : isPending s r.param.toNat = false := not_isPending_of_held hs held
  have holds : isHeld s r.param.toNat = true := decide_eq_true ⟨by omega, held⟩
  have motorless : ¬ r.param.toNat ≤ 2 := by omega
  simp only [dropStepOwner, good, if_false, idle, Bool.false_eq_true, holds, motorless, if_true]
  exact settleChain_of_orphans (marked_orphans r.tag (hs.congr rfl) (by omega) held)

/-- Settles O30: a held motor step released with all above it, and a held heat step marked. -/
theorem heldStepsDropped : Obligations.HeldStepsDropped := by
  refine ⟨fun s r rest h hl hcl one motor held => ?_, fun s r rest h hl hcl heat held => ?_⟩ <;> intro n
  all_goals have hs : StepsSound (s.serving r rest) := hl.1.congr rfl
  · have done := (exec_served h).trans (congrArg _ (dropStepOwner_motor hs one motor held))
    have keeps : KeepsAllBut [.admission, .permits, .line, .port] s
        (completeService .done 0 ((s.serving r rest).releasedFrom n)) := fun b hb => by
      cases b <;> simp_all [Block.Same, State.serving, State.releasedFrom, State.unchained]
    have permits := releaseAtOnce_permits_motor (s := s.serving r rest) one motor held
      (hl.2.congr rfl rfl rfl)
    obtain ⟨admission, port, frames⟩ := releasedFrom_outcome (s := s.serving r rest) held
    refine ⟨_, done, ?_, ?_, ?_, ?_, ?_, keeps⟩
    · simpa using admission
    · simp only [completeService_frame]
      exact frames.congr rfl rfl
    · exact onlyFrames_of (by simp [State.serving, State.releasedFrom, State.unchained])
    · simpa [State.releasedFrom, State.unchained] using permits
    · have completed := completeService_port .done h.free port
      rwa [stepByte_of_dropStep h.kind] at completed
  · have done := (exec_served h).trans (congrArg _ (dropStepOwner_heat hs heat held))
    have keeps : KeepsAllBut [.admission, .line, .port] s
        ((leaveService (s.serving r rest)).marked n r.tag).unchained := fun b hb => by
      cases b <;> simp_all [Block.Same, State.serving, State.marked, State.unchained]
    have admission := unchained_admission ((leaveService (s.serving r rest)).marked n r.tag)
    have marks := markFrom_getElem? n s.admission.held
    have frame := unchained_withdrawalFrame ((leaveService (s.serving r rest)).marked n r.tag)
    refine ⟨_, done, ?_, fun i x hx => ?_, ?_, frame.congr rfl rfl, ?_, ?_, keeps⟩
    · rw [admission]
      simp [State.marked, State.serving, markFrom]
    · rw [admission]
      exact (marks i).trans (congrArg _ hx)
    · rw [admission]
      rfl
    · exact onlyFrames_of (by simp [State.serving, State.marked, State.unchained])
    · rw [unchained_port]
      simp [State.marked, State.serving, leaveService, h.free]

end Sys2Proof.Machine
end

section
/-! A heat period's start: the marked steps released, and the new period timed (R93, R122, R127, R133, R134, R143,
R145). -/

namespace Sys2Proof.Machine

variable {s t : State}

/-! ## The marked steps -/

theorem filter_unmarked_of_findIdx? {l : List HeldStep} {i : Nat} (h : l.findIdx? (·.mark) = some i)
    (upward : l.Pairwise (fun h k => h.mark = true → k.mark = true)) :
    l.filter (fun h => h.mark = false) = l.take i := by
  obtain ⟨lt, marked, before⟩ := List.findIdx?_eq_some_iff_getElem.mp h
  have below : (l.take i).filter (fun h => h.mark = false) = l.take i := by
    refine List.filter_eq_self.mpr fun x hx => ?_
    obtain ⟨j, hj, rfl⟩ := List.mem_take_iff_getElem.mp hx
    simpa using before j (by omega)
  have from_here : (l.drop i).filter (fun h => h.mark = false) = [] := by
    rw [← List.take_append_drop i l, List.drop_eq_getElem_cons lt] at upward
    obtain ⟨above, -⟩ := List.pairwise_cons.mp (List.pairwise_append.mp upward).2.1
    rw [List.drop_eq_getElem_cons lt, List.filter_eq_nil_iff]
    intro x hx
    obtain rfl | hx := List.mem_cons.mp hx
    · simp [marked]
    · simp [above x hx marked]
  conv_lhs => rw [← List.take_append_drop i l, List.filter_append, below, from_here, List.append_nil]

/-- The marked steps are the upper ones, heat steps all. -/
theorem lowestMarked_cases (hs : StepsSound s) :
    (lowestMarked s = none ∧ ∀ h ∈ s.admission.held, h.mark = false)
    ∨ ∃ low, lowestMarked s = some low ∧ 3 ≤ low ∧ low ≤ heldLen s ∧ (∃ h ∈ s.admission.held, h.mark = true)
      ∧ s.admission.held.filter (fun h => h.mark = false) = s.admission.held.take (low - 1) := by
  unfold lowestMarked
  cases hi : s.admission.held.findIdx? (·.mark) with
  | none => exact .inl ⟨rfl, by simpa using List.findIdx?_eq_none_iff.mp hi⟩
  | some i =>
    obtain ⟨lt, marked, -⟩ := List.findIdx?_eq_some_iff_getElem.mp hi
    refine .inr ⟨i + 1, rfl, ?_, lt, ⟨_, List.getElem_mem lt, marked⟩, filter_unmarked_of_findIdx? hi hs.marksUpward⟩
    by_contra motor
    have unmarked := hs.marksOnHeat s.admission.held[i] (List.mem_take_iff_getElem.mpr ⟨i, by omega, rfl⟩)
    simp [marked] at unmarked

/-! ## Their release (R133) -/

/-- The part once the steps from `low` up have left with their RELEASED frame, the permits waiting for the new
period. -/
def State.withoutFrom (low : Nat) (s : State) : State :=
  offer (releasedFrame (cfg s) low (heldLen s))
    { s with admission := { s.admission with held := s.admission.held.take (low - 1) } }

theorem releaseMarked_none (h : lowestMarked s = none) : releaseMarked s = s := by
  simp [releaseMarked, h]

theorem releaseMarked_some {low : Nat} (hs : StepsSound s) (h : lowestMarked s = some low) (one : 1 ≤ low)
    (many : low ≤ heldLen s) : releaseMarked s = finishWaiters (s.withoutFrom low).unchained := by
  have orphans : ∀ p ∈ (s.withoutFrom low).admission.pending, prerequisiteHeld (s.withoutFrom low) p.step = false := by
    intro p hp
    have above := (hs.pendingAbove p (by simpa [State.withoutFrom] using hp)).1
    have length : heldLen (s.withoutFrom low) = low - 1 := by
      simpa [heldLen, State.withoutFrom] using length_take_held many
    exact prerequisiteHeld_of_above (by omega)
  rw [State.unchained, ← settleChain_of_orphans orphans]
  simp only [releaseMarked, h]
  rfl

theorem releaseMarked_some_outcome {low : Nat} (hs : StepsSound s) (h : lowestMarked s = some low) (one : 1 ≤ low)
    (many : low ≤ heldLen s) :
    (releaseMarked s).admission = { s.admission with
        held := s.admission.held.take (low - 1), pending := [], claim := .unannounced
        waiters := s.admission.waiters.filter (fun w => w.step ≤ low - 1) }
    ∧ (releaseMarked s).port = { s.port with
        events := s.port.events ++ stepCompletions .cancelled s.admission.pending
          ++ waiterCompletions (s.admission.waiters.filter (fun w => low - 1 < w.step)) }
    ∧ ReleaseFrames low s s.line (releaseMarked s).line := by
  have admission := unchained_admission (s.withoutFrom low)
  have left : (s.withoutFrom low).admission = { s.admission with held := s.admission.held.take (low - 1) } := by
    simp [State.withoutFrom]
  rw [left] at admission
  have length : heldLen (s.withoutFrom low).unchained = low - 1 := by
    rw [heldLen, admission, length_take_held many]
  have frame := (unchained_withdrawalFrame (s.withoutFrom low)).congr (s := s) (by rw [left])
    (by simp [State.withoutFrom])
  rw [releaseMarked_some hs h one many]
  refine ⟨?_, ?_, (s.withoutFrom low).line, fun few => absurd few (Nat.not_lt.mpr many), fun _ => ?_, ?_⟩
  · rw [finishWaiters_admission length, admission]
  · rw [finishWaiters_port length, unchained_port, admission, left]
    simp [State.withoutFrom]
  · exact offer_frameOffered { s with admission := { s.admission with held := s.admission.held.take (low - 1) } }
      (releasedFrame (cfg s) low (heldLen s)) nofun
  · simpa using frame

/-! ## The new period (R145) -/

/-- The permits of a new period, where DRUM and AIR are high and the door is closed as far as heat is held. -/
theorem newPeriod_permits (levels : 1 ≤ heatCount s → s.permits.drum = true ∧ s.permits.air = true
      ∧ s.permits.doorOpen = false) : (newPeriod s).permits = { s.permits with
        duty := heatCount s, blank := false, period := if heatCount s = 0 then none else some 0
        heat := decide (0 < (cfg s).heatPeriod * 100 * heatCount s / 4) } := by
  unfold newPeriod heatLevel onTime
  by_cases heatless : heatCount s = 0
  · simp [heatless]
  · obtain ⟨drum, air, closed⟩ := levels (Nat.pos_of_ne_zero heatless)
    simp [heatless, drum, air, closed, Config.ticksPerSecond]

theorem PermitsSound.levels (h : PermitsSound s) (hp : s.power = .running) (held : 1 ≤ heatCount s) :
    s.permits.drum = true ∧ s.permits.air = true ∧ s.permits.doorOpen = false := by
  unfold heatCount at held
  obtain ⟨drum, air⟩ := h.follow (by simp [hp])
  refine ⟨drum.trans (decide_eq_true (by omega)), air.trans (decide_eq_true (by omega)), ?_⟩
  by_contra opened
  obtain ⟨none_held, -⟩ := h.door (by simpa using opened)
  simp [heldLen, none_held] at held

theorem exec_heatPeriodStart {n : Nat} (hp : s.power = .running) (hn : s.permits.period = some n) :
    exec .heatPeriodStart s
      = .next (if (cfg s).heatPeriod * 100 ≤ n + 1 then newPeriod (releaseMarked s) else s) := by
  refine (whenRunning_running _ hp).trans (congrArg _ ?_)
  simp only [periodOver, hn]
  exact if_congr decide_eq_true_iff rfl rfl

/-- The held steps after a period's release are the unmarked ones. -/
theorem releaseMarked_held (hs : StepsSound s) :
    (releaseMarked s).admission.held = s.admission.held.filter (fun h => h.mark = false) := by
  obtain ⟨hm, unmarked⟩ | ⟨low, hm, three, many, -, left⟩ := lowestMarked_cases hs
  · rw [releaseMarked_none hm, List.filter_eq_self.mpr (by simpa using unmarked)]
  · rw [(releaseMarked_some_outcome hs hm (by omega) many).1, left]

/-- The permits once the marked steps have left and the new period is timed. -/
theorem newPeriod_releaseMarked_permits (hl : LoadsSound s) (hp : s.power = .running) {duty : Nat}
    (hd : (s.admission.held.filter (fun h => h.mark = false)).length - 2 = duty) :
    (newPeriod (releaseMarked s)).permits = { s.permits with
      duty := duty, blank := false, period := if duty = 0 then none else some 0
      heat := decide (0 < (cfg s).heatPeriod * 100 * duty / 4) } := by
  have count : heatCount (releaseMarked s) = duty := by
    rw [heatCount, heldLen, releaseMarked_held hl.1, hd]
  have fewer : heatCount (releaseMarked s) ≤ heatCount s := by
    rw [count, ← hd, heatCount, heldLen]
    exact Nat.sub_le_sub_right (List.length_filter_le _ _) 2
  have same : (releaseMarked s).permits = s.permits := by simp
  have permits := newPeriod_permits (s := releaseMarked s) fun held => by
    rw [same]
    exact hl.2.levels hp (held.trans fewer)
  rwa [count, same, cfg_congr (t := releaseMarked s) (s := s) (by simp)] at permits

/-- Settles O59: the marked steps' release, then the permits of the new period. -/
theorem heatPeriodStarts : Obligations.HeatPeriodStarts := by
  intro s n hp hl hn stays
  rw [exec_heatPeriodStart hp hn]
  refine ⟨fun early => congrArg _ (if_neg (Nat.not_le.mpr early)), fun late => ⟨_, congrArg _ (if_pos late), ?_⟩⟩
  have permits := newPeriod_releaseMarked_permits hl hp (duty := stays.length - 2) rfl
  have rest : (newPeriod (releaseMarked s)).admission = (releaseMarked s).admission
      ∧ (newPeriod (releaseMarked s)).port = (releaseMarked s).port
      ∧ (newPeriod (releaseMarked s)).line = (releaseMarked s).line := by simp
  rw [permits, rest.1, rest.2.1, rest.2.2]
  refine ⟨rfl, rfl, fun three => if_neg (by omega), fun few => ⟨if_pos (by omega), ?_⟩, decide_eq_true_iff, rfl,
    fun unmarked => ?_, fun marked => ?_, onlyFrames_of (by simp), fun b hb => by
      cases b <;> simp_all [Block.Same]⟩
  · have none_held : stays.length - 2 = 0 := by omega
    simp [none_held]
  · obtain ⟨hm, -⟩ | ⟨-, -, -, -, ⟨h, hh, marked⟩, -⟩ := lowestMarked_cases hl.1
    · rw [releaseMarked_none hm]
      exact ⟨rfl, rfl, rfl⟩
    · simp [unmarked h hh] at marked
  · obtain ⟨-, unmarked⟩ | ⟨low, hm, three, many, -, left⟩ := lowestMarked_cases hl.1
    · obtain ⟨h, hh, marked⟩ := marked
      simp [unmarked h hh] at marked
    · have length : stays.length = low - 1 := (congrArg List.length left).trans (length_take_held many)
      have outcome := releaseMarked_some_outcome hl.1 hm (by omega) many
      rw [length, show low - 1 + 1 = low by omega]
      rwa [← left] at outcome

end Sys2Proof.Machine
end

section
/-! The top heat step shed (R122, R134 to R136, R146), and the entry into SOLO (R103, R134, R138). -/

namespace Sys2Proof.Machine

variable {s t : State}

/-! ## The step put back (R135) -/

/-- There is room for one more outstanding request (R155). -/
def RoomBack (s : State) : Prop := outstanding s < 8 ∧ outstanding s + eventsWaiting s < 16

/-- The part once its top step has been released. -/
def State.topReleased (s : State) : State := releaseAtOnce (heldLen s) s

/-- The part once its top step has been put back in the pending list, lowest of all. -/
def State.topBack (tag : Byte) (s : State) : State :=
  { s.topReleased with admission := { s.topReleased.admission with
      pending := ⟨heldLen s, tag, 0, 0⟩ :: s.admission.pending } }

theorem topReleased_admission (s : State) : s.topReleased.admission =
    { s.admission with held := s.admission.held.take (heldLen s - 1) } :=
  releaseAtOnce_admission _ s

theorem insertRequest_lowest {p : StepRequest} {l : List StepRequest} (h : ∀ q ∈ l, p.step ≤ q.step) :
    insertRequest p l = p :: l := by
  cases l with
  | nil => rfl
  | cons q rest => exact if_pos (h q List.mem_cons_self)

theorem putBack_topReleased (tag : Byte) (hs : StepsSound s) :
    (RoomBack s → putBack (heldLen s) tag s.topReleased = s.topBack tag)
    ∧ (¬ RoomBack s → putBack (heldLen s) tag s.topReleased = s.topReleased) := by
  have port : s.topReleased.port = s.port := releaseAtOnce_port _ s
  have counted : outstanding s.topReleased = outstanding s :=
    outstanding_congr (by rw [port]) (by rw [port]) (by rw [topReleased_admission]) (by rw [topReleased_admission])
  have room : (outstanding s.topReleased < Config.requestLimit ∧ hasRoom s.topReleased = true) ↔ RoomBack s := by
    rw [hasRoom_iff, counted, eventsWaiting, port]
    exact Iff.rfl
  refine ⟨fun h => ?_, fun h => if_neg fun free => h (room.mp free)⟩
  refine (if_pos (room.mpr h)).trans ?_
  rw [insertRequest_lowest, topReleased_admission]
  · rw [State.topBack, topReleased_admission]
  · intro q hq
    rw [topReleased_admission] at hq
    exact (hs.pendingAbove q hq).1.le

/-- The step of an announced claim is the one above the held steps. -/
theorem ClaimSound.announced_eq {n : Nat} (hcl : ClaimSound s) (hs : StepsSound s) (hn : announcedStep s = some n) :
    n = heldLen s + 1 := by
  obtain ⟨p, hp, -⟩ := Option.map_eq_some_iff.mp (hcl.claimed n hn).1
  obtain ⟨rest, list⟩ := List.head?_eq_some_iff.mp hp
  exact (hcl.claimed_step hs hn list).2.1

/-- A claim whose prerequisite is no longer held is unfounded (R122). -/
theorem withdrawUnfounded_of_unheld (h : ∀ n, announcedStep s = some n → prerequisiteHeld s n = false) :
    withdrawUnfounded s = withdrawClaim s := by
  unfold withdrawUnfounded
  split
  · rename_i hn
    rw [withdrawClaim_of_unannounced hn]
  · rename_i n hn
    simp [h n hn]

/-- Under an unmarked top step every held step is unmarked. -/
theorem StepsSound.unmarked_of_top {h : HeldStep} (hs : StepsSound s) (top : s.admission.held.getLast? = some h)
    (hm : h.mark = false) : ∀ x ∈ s.admission.held, x.mark = false := by
  obtain ⟨below, list⟩ := List.getLast?_eq_some_iff.mp top
  have upward := hs.marksUpward
  rw [list, List.pairwise_append] at upward
  intro x hx
  rw [list, List.mem_append, List.mem_singleton] at hx
  obtain hx | rfl := hx
  · by_contra marked
    have above := upward.2.2 x hx h List.mem_cons_self (by simpa using marked)
    simp [hm] at above
  · exact hm

theorem heldUnmarked_le {n : Nat} (h : heldUnmarked s n = true) : 1 ≤ n ∧ n ≤ heldLen s := by
  simp only [heldUnmarked, Bool.and_eq_true, decide_eq_true_eq] at h
  refine ⟨h.1, ?_⟩
  by_contra far
  rw [List.getElem?_eq_none (by unfold heldLen at far; omega)] at h
  cases h.2

/-- With its top step put back a part's pending requests are chained. -/
theorem topBack_chained (tag : Byte) (hs : StepsSound s) (hcl : ClaimSound s) (one : 1 ≤ heldLen s)
    (unmarked : ∀ x ∈ s.admission.held, x.mark = false) (p : StepRequest)
    (hp : p ∈ (s.topBack tag).admission.pending) : prerequisiteHeld (s.topBack tag) p.step = true
      ∨ ∃ q ∈ (s.topBack tag).admission.pending, q.step = p.step - 1 := by
  obtain rfl | hp := List.mem_cons.mp hp
  · left
    by_cases drum : heldLen s = 1
    · simp [prerequisiteHeld, drum]
    · have lt : heldLen s - 1 - 1 < s.admission.held.length := by unfold heldLen at one ⊢; omega
      have below : (s.topBack tag).admission.held[heldLen s - 1 - 1]? = some s.admission.held[heldLen s - 1 - 1] := by
        rw [State.topBack, topReleased_admission]
        exact (List.getElem?_take_of_lt (by omega)).trans (List.getElem?_eq_getElem lt)
      have low := unmarked _ (List.getElem_mem lt)
      simp only [prerequisiteHeld, heldUnmarked, below, Option.map_some, low, Option.getD_some]
      simp
      omega
  · right
    have above := (hs.pendingAbove p hp).1
    obtain held | waits := hcl.chained p hp
    · simp only [prerequisiteHeld, Bool.or_eq_true, decide_eq_true_eq] at held
      obtain first | held := held
      · omega
      · have le := (heldUnmarked_le held).2
        exact ⟨_, List.mem_cons_self, by dsimp only; omega⟩
    · obtain ⟨q, hq, step⟩ : ∃ q ∈ s.admission.pending, q.step = p.step - 1 := by simpa [isPending] using waits
      exact ⟨q, List.mem_cons_of_mem _ hq, step⟩

/-- With the step put back every pending request stays, and a claim is for a step whose prerequisite has gone
(R122). -/
theorem settleChain_topBack (tag : Byte) (hs : StepsSound s) (hcl : ClaimSound s) (one : 1 ≤ heldLen s)
    (unmarked : ∀ x ∈ s.admission.held, x.mark = false) :
    settleChain (s.topBack tag) = withdrawClaim (s.topBack tag) := by
  have length : heldLen (s.topBack tag) = heldLen s - 1 := by
    rw [heldLen, State.topBack, topReleased_admission, length_take_held (Nat.le_refl _)]
  have rising : (s.topBack tag).admission.pending.Pairwise (fun p q => p.step < q.step) :=
    List.pairwise_cons.mpr ⟨fun q hq => (hs.pendingAbove q hq).1, hs.pendingRising⟩
  have split : splitChain (prerequisiteHeld (s.topBack tag)) ((s.topBack tag).admission.pending ++ []) []
      = ((s.topBack tag).admission.pending, []) := by
    refine splitChain_append rising (fun p hp => ?_) (fun p hp => ?_) nofun
    · obtain rfl | hp := List.mem_cons.mp hp
      · exact one
      · have above := (hs.pendingAbove p hp).1
        omega
    · exact (topBack_chained tag hs hcl one unmarked p hp).imp_right .inr
  have unfounded : withdrawUnfounded (s.topBack tag) = withdrawClaim (s.topBack tag) := by
    refine withdrawUnfounded_of_unheld fun n hn => ?_
    have claimed : announcedStep s = some n := by
      simpa [announcedStep, State.topBack, topReleased_admission] using hn
    have step := hcl.announced_eq hs claimed
    exact prerequisiteHeld_of_above (by omega)
  rw [List.append_nil] at split
  rw [settleChain_eq, split, ← unfounded, List.map_nil, List.append_nil]

/-! ## What the shedding leaves (R135, R146) -/

theorem shed_eq {h : HeldStep} (top : s.admission.held.getLast? = some h) :
    shed s = (let u := finishWaiters (settleChain
        (if h.mark then s.topReleased else putBack (heldLen s) h.tag s.topReleased))
      let v := postStepLost (heldLen s) .shed u
      { v with admission := { v.admission with shedSettle := some 0 } }) := by
  simp only [shed, top]
  rfl

/-- The part after the top step has left and its chain has been settled. -/
structure ShedSettled (back : Prop) [Decidable back] (tag : Byte) (s u : State) : Prop where
  admission : u.admission = { s.admission with
    held := s.admission.held.take (heldLen s - 1)
    pending := if back then ⟨heldLen s, tag, 0, 0⟩ :: s.admission.pending else []
    claim := .unannounced
    testAtTick := u.admission.testAtTick }
  testAtTick : u.admission.testAtTick = true ↔ s.admission.testAtTick = true ∨ (back ∧ ∃ n, announcedStep s = some n)
  port : u.port = { s.port with
    events := s.port.events ++ if back then [] else stepCompletions .cancelled s.admission.pending }
  frame : WithdrawalFrame s s.topReleased.line u.line
  permits : u.permits = s.topReleased.permits

/-- A withdrawal of a claim whose step is pending puts its test off (R127). -/
theorem withdrawClaim_admission_of_pending (h : ∀ n, announcedStep s = some n → isPending s n = true) :
    (withdrawClaim s).admission = { s.admission with
      claim := .unannounced, testAtTick := s.admission.testAtTick || (announcedStep s).isSome } := by
  cases hn : announcedStep s with
  | none =>
    rw [withdrawClaim_of_unannounced hn, Option.isSome_none, Bool.or_false, ← announcedStep_eq_none_iff.mp hn]
  | some n => rw [(withdrawClaim_claimWithdrawn hn).1, h n hn, Option.isSome_some]

theorem settleChain_topBack_settled {back : Prop} [Decidable back] (tag : Byte) (hb : back) (hs : StepsSound s)
    (hcl : ClaimSound s) (one : 1 ≤ heldLen s) (unmarked : ∀ x ∈ s.admission.held, x.mark = false) :
    ShedSettled back tag s (settleChain (s.topBack tag)) := by
  have frame := withdrawClaim_withdrawalFrame (s.topBack tag)
  have claim : (s.topBack tag).admission.claim = s.admission.claim := by
    simp [State.topBack, topReleased_admission]
  have announced : announcedStep (s.topBack tag) = announcedStep s := by simp [announcedStep, claim]
  have admission := withdrawClaim_admission_of_pending (s := s.topBack tag) fun n hn => by
    obtain ⟨p, hp, step⟩ := Option.map_eq_some_iff.mp (hcl.claimed n (announced ▸ hn)).1
    have waits : p ∈ (s.topBack tag).admission.pending := List.mem_cons_of_mem _ (List.mem_of_mem_head? hp)
    simpa [isPending] using ⟨p, waits, step⟩
  rw [announced] at admission
  rw [settleChain_topBack tag hs hcl one unmarked]
  refine ⟨?_, ?_, ?_, frame.congr claim (by simp [State.topBack, State.topReleased]), by simp [State.topBack]⟩
  · rw [admission, if_pos hb]
    simp [State.topBack, topReleased_admission]
  · rw [admission]
    simp [State.topBack, topReleased_admission, hb, Option.isSome_iff_exists]
  · simp [hb, State.topBack, State.topReleased]

theorem settleChain_topReleased_settled {back : Prop} [Decidable back] (tag : Byte) (hb : ¬ back) (hs : StepsSound s)
    (one : 1 ≤ heldLen s) : ShedSettled back tag s (settleChain s.topReleased) := by
  have orphans := (releaseAtOnce_orphans hs one (Nat.le_refl _)).2
  have left := topReleased_admission s
  have frame := unchained_withdrawalFrame s.topReleased
  rw [settleChain_of_orphans (s := s.topReleased) (by rw [left]; exact orphans)]
  refine ⟨?_, ?_, ?_, frame.congr (by rw [left]) (by simp [State.topReleased]), unchained_permits _⟩
  · rw [← State.unchained, unchained_admission, left, if_neg hb]
  · rw [← State.unchained, unchained_admission, left]
    simp [hb]
  · rw [← State.unchained, unchained_port, left, if_neg hb]
    simp [State.topReleased]

theorem shed_keepsAllBut (s : State) : KeepsAllBut [.admission, .permits, .line, .port] s (shed s) := by
  intro b hb
  cases b <;> simp [Block.Same] at hb ⊢

/-- R135, R146, in the words of the statements. -/
theorem shed_shedStep (hl : LoadsSound s) (hcl : ClaimSound s) (hp : s.power = .running) (three : 3 ≤ heldLen s) :
    ShedStep s (shed s) := by
  intro h last back left
  have hs := hl.1
  have he := shed_eq last
  have frames : OnlyFrames s (shed s) := onlyFrames_of (by simp)
  have kept := shed_keepsAllBut s
  have one : 1 ≤ heldLen s := by omega
  have settled : ShedSettled (h.mark = false ∧ outstanding s < 8 ∧ outstanding s + eventsWaiting s < 16) h.tag s
      (settleChain (if h.mark then s.topReleased else putBack (heldLen s) h.tag s.topReleased)) := by
    obtain ⟨puts, full⟩ := putBack_topReleased h.tag hs
    cases hm : h.mark
    · by_cases room : RoomBack s
      · rw [if_neg nofun, puts room]
        exact settleChain_topBack_settled h.tag ⟨rfl, room⟩ hs hcl one (hs.unmarked_of_top last hm)
      · rw [if_neg nofun, full room]
        exact settleChain_topReleased_settled h.tag (fun hb => room hb.2) hs one
    · exact settleChain_topReleased_settled h.tag nofun hs one
  have line : (shed s).line = (settleChain
      (if h.mark then s.topReleased else putBack (heldLen s) h.tag s.topReleased)).line := by
    rw [he]
    simp
  generalize settleChain (if h.mark then s.topReleased else putBack (heldLen s) h.tag s.topReleased) = u at *
  obtain ⟨admission, testAtTick, port, frame, permits⟩ := settled
  have length : heldLen u = heldLen s - 1 := by
    rw [heldLen, admission, length_take_held (Nat.le_refl _)]
  have length' : heldLen (finishWaiters u) = heldLen s - 1 := (heldLen_congr (by simp)).trans length
  have waiters := finishWaiters_admission length
  have events := finishWaiters_port length
  have whole : (shed s).admission = left := by
    simp only [he, left, postStepLost_frame, waiters]
    rw [admission]
  refine ⟨whole, ?_, ?_, ?_, ?_, frames, kept⟩
  · have same : (shed s).admission.testAtTick = u.admission.testAtTick := by
      rw [he]
      simp
    rw [same]
    exact testAtTick
  · have same : (shed s).permits = u.permits := by
      rw [he]
      simp
    rw [same, permits]
    exact releaseAtOnce_permits_heat three (Nat.le_refl _) hl.2 hp
  · have same : (shed s).port = postedPort (.stepLost (heldLen s) .shed (heldLen s - 1)) (finishWaiters u) := by
      rw [he, ← length']
      simp only [postStepLost, post_eq]
    rw [same]
    refine (postedPort_congr _ ?_ ?_ ?_ :
      postedPort _ (finishWaiters u) = postedPort _ { s with admission := left, port := _ })
    · rw [events, port, admission]
    · rw [waiters, admission]
    · rw [waiters, admission]
  · rw [line]
    obtain ⟨few, many⟩ := releaseAtOnce_frames (heldLen s) s
    exact ⟨s.topReleased.line, few, many, frame⟩

/-! ## The end of the shed settle (R135, R136) -/

theorem StepsSound.of_lists (h : StepsSound s) (held : t.admission.held = s.admission.held)
    (pending : t.admission.pending = s.admission.pending) : StepsSound t := by
  have length : heldLen t = heldLen s := heldLen_congr held
  refine ⟨length ▸ h.heldSix, ?_, ?_, ?_, ?_⟩ <;> simp only [held, pending]
  exacts [h.marksOnHeat, h.marksUpward, h.pendingRising, length ▸ h.pendingAbove]

theorem PermitsSound.of_lists (h : PermitsSound s) (held : t.admission.held = s.admission.held)
    (pending : t.admission.pending = s.admission.pending) (hp : t.permits = s.permits)
    (power : t.power = s.power) : PermitsSound t := by
  have length : heldLen t = heldLen s := heldLen_congr held
  have heat : heatCount t = heatCount s := heatCount_congr held
  refine ⟨?_, ?_, ?_, ?_, ?_, ?_, ?_, ?_⟩ <;> simp only [held, pending, hp, power, length, heat]
  exacts [h.follow, h.resetLow, h.interlock, h.dutyHeld, h.dutyStarts, h.counter, h.blankDuty, h.door]

theorem LoadsSound.of_lists (h : LoadsSound s) (held : t.admission.held = s.admission.held)
    (pending : t.admission.pending = s.admission.pending) (hp : t.permits = s.permits)
    (power : t.power = s.power) : LoadsSound t :=
  ⟨h.1.of_lists held pending, h.2.of_lists held pending hp power⟩

/-- The settle's timer bears on neither the loads nor the claim. -/
theorem sound_of_settled (settle : Option Nat) (hl : LoadsSound s) (hcl : ClaimSound s) :
    LoadsSound { s with admission := { s.admission with shedSettle := settle } }
    ∧ ClaimSound { s with admission := { s.admission with shedSettle := settle } } :=
  ⟨hl.of_lists rfl rfl rfl rfl, hcl.claimed, hcl.heldMode, hcl.heldCycle, hcl.pendingCycle, hcl.scanEmpty,
    hcl.chained⟩

theorem overcommitTest_outcome :
    (MustShed s → overcommitTest s = shed s) ∧ (¬ MustShed s → overcommitTest s = s) :=
  ⟨fun must => if_pos ((mustShed_iff _).mpr must), fun stays => if_neg fun must => stays ((mustShed_iff _).mp must)⟩

/-- Settles O58: the overcommit test of the station whose settle has ended. -/
theorem shedSettleExpires : Obligations.ShedSettleExpires := by
  intro s n hp hn hl _ hcl ended
  have served : exec .shedSettleExpiry s
      = .next (if atLimit s.admission.shedSettle 200 then overcommitTest ended else s) :=
    whenRunning_running _ hp
  obtain ⟨due, early⟩ := next_atLimit hn 200 (overcommitTest ended) s
  obtain ⟨sheds, stays⟩ := overcommitTest_outcome (s := ended)
  obtain ⟨loads, claim⟩ := sound_of_settled none hl hcl
  rw [served]
  refine ⟨early, fun late must => ⟨shed ended, ?_, shed_shedStep loads claim hp must.2.1⟩, fun late no => ?_⟩
  · rw [due late, sheds must]
  · rw [due late, stays no]

end Sys2Proof.Machine
end

section
/-! The entry into SOLO (R103, R134, R138), the join window and the presence timer (R99, R101, R102), and peers that
fall silent and leave (R111 to R113). -/

namespace Sys2Proof.Machine

variable {s t : State}

/-! ## A change of the mode (R103) -/

/-- The part in another mode, with its LINE event. -/
def State.inMode (mode : LineMode) (why : LineCause) (s : State) : State :=
  { s with line := { s.line with mode := mode }, port := postedPort (.line mode why) s }

theorem post_line (mode : LineMode) (why : LineCause) (s : State) :
    post (.line mode why) { s with line := { s.line with mode := mode } } = s.inMode mode why :=
  post_eq _ _

theorem changeMode_entering {cause : SoloCause} (why : LineCause) (h : s.line.mode.isSolo = false) :
    changeMode (.solo cause) why s = soloEntry (s.inMode (.solo cause) why) := by
  rw [changeMode, post_line, h]
  rfl

theorem changeMode_in_solo {cause : SoloCause} (mode : LineMode) (why : LineCause) (h : s.line.mode = .solo cause) :
    changeMode mode why s = s.inMode mode why := by
  rw [changeMode, post_line, h]
  simp [LineMode.isSolo]

theorem changeMode_to_shared {mode : LineMode} (why : LineCause) (h : mode.isSolo = false) (s : State) :
    changeMode mode why s = s.inMode mode why := by
  rw [changeMode, post_line, h]
  rfl

/-! ## The entry into SOLO (R134, R138) -/

/-- The part once the heat steps above the solo heat cap have left, with their waiters and STEP_LOST. -/
def State.capped (s : State) : State :=
  postStepLost (3 + (cfg s).soloCap) .soloCap (finishWaiters (releaseAtOnce (3 + (cfg s).soloCap) s))

theorem soloEntry_within (h : heldLen s ≤ 2 + (cfg s).soloCap) {cause : SoloCause} (mode : s.line.mode = .solo cause) :
    WithdrawnWhen (fun n => 2 + (cfg s).soloCap < n) s (soloEntry s) := by
  have stays : capHeldSteps s = s := if_neg (by omega)
  have capped (n : Nat) : underCap s n = true ↔ n ≤ 2 + (cfg s).soloCap :=
    (underCap_iff s n).trans ⟨fun h => h ⟨cause, mode⟩, fun h _ => h⟩
  refine withdrawnWhen_of (fun n hn above => ?_) fun free => ?_
  · have past : ¬ underCap s n = true := fun under => Nat.not_le.mpr above ((capped n).mp under)
    simp only [soloEntry, stays, hn, if_neg past]
  · cases hn : announcedStep s with
    | none => simp only [soloEntry, stays, hn]
    | some n => simp only [soloEntry, stays, hn, if_pos ((capped n).mpr (Nat.not_lt.mp (free n hn)))]

theorem capped_admission (many : 3 + (cfg s).soloCap ≤ heldLen s) : s.capped.admission = { s.admission with
    held := s.admission.held.take (2 + (cfg s).soloCap)
    waiters := s.admission.waiters.filter (fun w => w.step ≤ 2 + (cfg s).soloCap) } := by
  have left : 3 + (cfg s).soloCap - 1 = 2 + (cfg s).soloCap := by omega
  have length : heldLen (releaseAtOnce (3 + (cfg s).soloCap) s) = 2 + (cfg s).soloCap := by
    rw [heldLen, releaseAtOnce_admission, length_take_held many, left]
  have admission := finishWaiters_admission length
  rw [releaseAtOnce_admission, left] at admission
  simpa [State.capped] using admission

theorem capped_port (many : 3 + (cfg s).soloCap ≤ heldLen s) : s.capped.port =
    postedPort (.stepLost (2 + (cfg s).soloCap + 1) .soloCap (2 + (cfg s).soloCap)) { s with
      admission := { s.admission with
        waiters := s.admission.waiters.filter (fun w => w.step ≤ 2 + (cfg s).soloCap) }
      port := { s.port with
        events := s.port.events
          ++ waiterCompletions (s.admission.waiters.filter (fun w => 2 + (cfg s).soloCap < w.step)) } } := by
  have left : 3 + (cfg s).soloCap - 1 = 2 + (cfg s).soloCap := by omega
  have low : 3 + (cfg s).soloCap = 2 + (cfg s).soloCap + 1 := by omega
  have length : heldLen (releaseAtOnce (3 + (cfg s).soloCap) s) = 2 + (cfg s).soloCap := by
    rw [heldLen, releaseAtOnce_admission, length_take_held many, left]
  have admission := finishWaiters_admission length
  have port := finishWaiters_port length
  rw [releaseAtOnce_admission, left] at admission
  rw [releaseAtOnce_admission, releaseAtOnce_port] at port
  have length' : heldLen (finishWaiters (releaseAtOnce (3 + (cfg s).soloCap) s)) = 2 + (cfg s).soloCap :=
    (heldLen_congr (by simp)).trans length
  have posted : s.capped.port = postedPort (.stepLost (3 + (cfg s).soloCap) .soloCap (2 + (cfg s).soloCap))
      (finishWaiters (releaseAtOnce (3 + (cfg s).soloCap) s)) := by
    rw [State.capped, postStepLost, length', post_eq]
  rw [posted, ← low]
  exact postedPort_congr _ port (by rw [admission]) (by rw [admission])

theorem capped_frame (s : State) : s.capped.permits = (releaseAtOnce (3 + (cfg s).soloCap) s).permits
    ∧ s.capped.line = (releaseAtOnce (3 + (cfg s).soloCap) s).line ∧ s.capped.settings = s.settings := by
  simp [State.capped]

theorem soloEntry_above (hs : StepsSound s) (many : 3 + (cfg s).soloCap ≤ heldLen s) :
    soloEntry s = s.capped.unchained := by
  have left := capped_admission many
  have length : heldLen s.capped = 2 + (cfg s).soloCap := by
    rw [heldLen, left, List.length_take]
    unfold heldLen at many
    omega
  have goes : capHeldSteps s = s.capped.unchained := by
    refine (if_pos many).trans (settleChain_of_orphans (s := s.capped) fun p hp => prerequisiteHeld_of_above ?_)
    have above := (hs.pendingAbove p (by simpa [left] using hp)).1
    omega
  have free : announcedStep s.capped.unchained = none := announcedStep_eq_none_iff.mpr (by rw [unchained_admission])
  simp only [soloEntry, goes, free]

/-- R103, R134, R138, in the words of the statements. -/
theorem changeMode_soloEntered (cause : SoloCause) (why : LineCause) (hl : LoadsSound s) (hp : s.power = .running)
    (mode : s.line.mode.isSolo = false) : SoloEntered cause why s (changeMode (.solo cause) why s) := by
  unfold SoloEntered
  intro cap told moved left lost
  rw [show changeMode (.solo cause) why s = soloEntry moved from changeMode_entering why mode]
  have frames : OnlyFrames moved (soloEntry moved) := onlyFrames_of (by simp)
  have kept : KeepsAllBut [.admission, .permits, .port, .line] s (soloEntry moved) := by
    intro b hb
    cases b <;> simp [Block.Same, moved] at hb ⊢
  refine ⟨fun within => soloEntry_within (s := moved) within rfl, fun past => ?_⟩
  have loads : LoadsSound moved := hl.congr rfl rfl rfl
  have many : 3 + (cfg moved).soloCap ≤ heldLen moved := by
    exact show 3 + (cfg s).soloCap ≤ heldLen s by omega
  have entry := soloEntry_above loads.1 many
  have admission := capped_admission many
  have permits : moved.capped.permits = _ := (capped_frame moved).1.trans
    (releaseAtOnce_permits_heat (by omega) many loads.2 hp)
  have released := releaseFrames_of (3 + (cfg moved).soloCap) (s := moved) (s0 := moved)
    (u := completeAllPending .cancelled moved.capped) ⟨rfl, rfl, rfl⟩ (by
      have sub := capped_frame moved
      simp [sub, admission])
  refine ⟨?_, ?_, ?_, ?_, frames, kept⟩
  · rw [entry, unchained_admission, admission]
    rfl
  · have duty : 3 + (cfg moved).soloCap - 3 = (cfg s).soloCap := by rw [Nat.add_sub_cancel_left]; rfl
    have last : 3 + (cfg moved).soloCap = 3 ↔ (cfg s).soloCap = 0 := by rw [Nat.add_eq_left]; rfl
    rw [entry, unchained_permits, permits, duty]
    simp only [last, ne_eq]
    rfl
  · rw [entry, unchained_port, capped_port many, admission]
    rfl
  · have low : 3 + (cfg moved).soloCap = cap + 1 := show 3 + (cfg s).soloCap = 2 + (cfg s).soloCap + 1 by omega
    rw [low] at released
    rw [entry]
    exact released

/-! ## The presence timer and the join window (R99, R101, R102) -/

/-- A PRESENCE joins an empty queue alone (R99). -/
theorem offer_presenceFrame (mode : s.line.mode ≠ .off) : offer presenceFrame s = { s with line := { s.line with
    queue := if s.line.queue = [] then [presenceFrame] else s.line.queue } } := by
  have presence : presenceFrame.kind = .presence := rfl
  rw [offer, if_neg mode, if_pos presence]
  split <;> rfl

theorem exec_presenceDue (hp : s.power = .running) : exec .presenceDue s
    = .next (if s.line.presenceRunning ∧ 200 ≤ s.line.presenceTicks then
        offer presenceFrame { s with line := { s.line with presenceRunning := false, presenceTicks := 200 } }
      else s) :=
  whenRunning_running _ hp

theorem exec_joinSlot (hp : s.power = .running) : exec .joinSlot s
    = .next (if slotReached s then offer presenceFrame { s with line := { s.line with joinSlotDone := true } }
      else s) :=
  whenRunning_running _ hp

theorem exec_joinWindowEnd (hp : s.power = .running) (mode : s.line.mode = .joining)
    (runs : s.line.joinRunning = true) : exec .joinWindowEnd s
    = .next (if 300 ≤ s.line.joinTicks then
        changeMode (if s.line.duplicateMark then .solo .duplicateStation else modeByView s) .joinEnd
          { s with line := { s.line with joinRunning := false, joinTicks := 300 } }
      else s) := by
  refine (whenRunning_running _ hp).trans (congrArg _ (if_congr ?_ rfl rfl))
  simp [mode, runs, Config.joinWindowTicks]

/-- Settles O52: the two offers of a PRESENCE, and the mode by the mark, the view and the bank size. -/
theorem joinWindowAndPresence : Obligations.JoinWindowAndPresence := by
  refine ⟨fun s hp => ?_, fun s hp mode runs => ⟨fun early => ?_, fun late hl => ?_⟩⟩
  · intro offered
    refine ⟨fun runs due mode => ?_, fun early => ?_, fun mode runs undone due => ?_, fun early => ?_⟩
    · rw [exec_presenceDue hp, if_pos ⟨runs, due⟩]
      exact congrArg _ (offer_presenceFrame mode)
    · rw [exec_presenceDue hp, if_neg]
      rintro ⟨runs, due⟩
      simp [runs, Nat.not_lt.mpr due] at early
    · rw [exec_joinSlot hp, if_pos (slotReached_iff.mpr ⟨mode, runs, undone, due⟩)]
      exact congrArg _ (offer_presenceFrame (by simp [mode]))
    · rw [exec_joinSlot hp, if_neg]
      intro reached
      obtain ⟨-, -, undone, due⟩ := slotReached_iff.mp reached
      simp [undone, Nat.not_lt.mpr due] at early
  · rw [exec_joinWindowEnd hp mode runs, if_neg (Nat.not_le.mpr early)]
  · intro ended moves enters
    have served := (exec_joinWindowEnd hp mode runs).trans (congrArg _ (if_pos late))
    have loads : LoadsSound ended := hl.congr rfl rfl rfl
    have away : ended.line.mode.isSolo = false := by simp [ended, mode, LineMode.isSolo]
    have solo (cause : SoloCause) : SoloEntered cause .joinEnd ended (changeMode (.solo cause) .joinEnd ended) :=
      changeMode_soloEntered cause .joinEnd loads hp away
    have shared {m : LineMode} (hm : m.isSolo = false) : changeMode m .joinEnd ended = ended.inMode m .joinEnd :=
      changeMode_to_shared .joinEnd hm ended
    refine ⟨fun mark => ⟨_, ?_, solo .duplicateStation⟩, fun mark peers => ?_, fun mark alone one => ?_,
      fun mark alone more => ⟨_, ?_, solo .noPeers⟩⟩
    · rwa [if_pos mark] at served
    · rw [if_neg (by simp [mark]), modeByView, if_pos peers] at served
      exact served.trans (congrArg _ (shared rfl))
    · rw [if_neg (by simp [mark]), modeByView, if_neg (by simp [alone]), if_pos one] at served
      exact served.trans (congrArg _ (shared rfl))
    · rwa [if_neg (by simp [mark]), modeByView, if_neg (by simp [alone]), if_neg more] at served

end Sys2Proof.Machine
end

section
/-! The loads and the claim through a view change (R110, R124, R135, R137), and peers that fall silent and leave
(R103, R111 to R113). -/

namespace Sys2Proof.Machine

variable {s t : State}

/-! ## A view change keeps the loads and the claim -/

/-- The claim withdrawn or made, with nothing else of the claim's companions changed. -/
theorem ClaimSound.of_claim (h : ClaimSound s) (held : t.admission.held = s.admission.held)
    (pending : t.admission.pending = s.admission.pending) (mode : t.line.mode = s.line.mode)
    (cycle : t.context.cycleState = s.context.cycleState) (power : t.power = s.power)
    (claimed : ∀ n, announcedStep t = some n → (s.admission.pending.head?.map (·.step)) = some n
      ∧ prerequisiteHeld s n = true ∧ s.line.mode.claims = true) : ClaimSound t := by
  have prerequisite := prerequisiteHeld_congr held
  have waits := isPending_congr pending
  refine ⟨?_, ?_, ?_, ?_, ?_, ?_⟩ <;> simp only [held, pending, mode, cycle, power, prerequisite, waits]
  exacts [claimed, h.heldMode, h.heldCycle, h.pendingCycle, h.scanEmpty, h.chained]

theorem ClaimSound.retestClaim (h : ClaimSound s) : ClaimSound (retestClaim s) := by
  refine h.of_claim (by simp) (by simp) (by simp) (by simp) (by simp) fun n hn => ?_
  obtain he | he | he := retestClaim_cases s <;> rw [he] at hn
  · exact h.claimed n hn
  · have free := withdrawClaim_claim s
    rw [announcedStep, free] at hn
    cases hn
  · obtain same | ⟨p, rest, -, hp, -, passes, made⟩ := tryClaim_cases s
    · rw [same] at hn
      exact h.claimed n hn
    · rw [made] at hn
      obtain rfl : p.step = n := by simpa [announcedStep] using hn
      obtain ⟨off, joining, first, -⟩ := (admissionPasses_iff s _ _).mp passes
      have prerequisite : prerequisiteHeld s p.step = true := by simpa [prerequisiteHeld] using first
      exact ⟨by simp [hp], prerequisite, (claims_iff _).mpr ⟨off, joining⟩⟩

/-- What a shed leaves is sound (R135, R146). -/
theorem LoadsSound.shed (hl : LoadsSound s) (hcl : ClaimSound s) (hp : s.power = .running) (three : 3 ≤ heldLen s) :
    LoadsSound (shed s) := by
  obtain ⟨hs, hpm⟩ := hl
  have some_held : s.admission.held ≠ [] := by
    rintro none_held
    simp [heldLen, none_held] at three
  obtain ⟨admission, -, permits, -⟩ := shed_shedStep ⟨hs, hpm⟩ hcl hp three _ (List.getLast?_eq_some_getLast some_held)
  have held : (Machine.shed s).admission.held = s.admission.held.take (heldLen s - 1) := by rw [admission]
  have length : heldLen (Machine.shed s) = heldLen s - 1 := by rw [heldLen, held, length_take_held (Nat.le_refl _)]
  have below := List.take_sublist (heldLen s - 1) s.admission.held
  have back : ∃ tag, (Machine.shed s).admission.pending = ⟨heldLen s, tag, 0, 0⟩ :: s.admission.pending
      ∨ (Machine.shed s).admission.pending = [] := by
    refine ⟨(s.admission.held.getLast some_held).tag, ?_⟩
    rw [admission]
    split
    · exact .inl rfl
    · exact .inr rfl
  obtain ⟨tag, back⟩ := back
  constructor
  · refine ⟨?_, fun h hh => hs.marksOnHeat h ?_, ?_, ?_, ?_⟩
    · have six := hs.heldSix
      omega
    · rw [held, List.take_take, Nat.min_eq_left (by omega)] at hh
      exact hh
    · rw [held]
      exact hs.marksUpward.sublist below
    · obtain he | he := back <;> rw [he]
      · exact List.pairwise_cons.mpr ⟨fun q hq => (hs.pendingAbove q hq).1, hs.pendingRising⟩
      · exact .nil
    · rw [length]
      intro p hp
      obtain he | he := back <;> rw [he] at hp
      · have six := hs.heldSix
        obtain rfl | hp := List.mem_cons.mp hp
        · exact ⟨by dsimp only; omega, six⟩
        · have above := hs.pendingAbove p hp
          omega
      · cases hp
  · have power : (Machine.shed s).power = .running := by simpa using hp
    have heat : heatCount (Machine.shed s) = heldLen s - 3 := by unfold heatCount; omega
    obtain ⟨drum, air⟩ := hpm.follow (by simp [hp])
    have starts := hpm.dutyStarts (by unfold heatCount; omega)
    have counts : s.permits.period ≠ none := fun idle => by
      have none_duty := hpm.counter.mp idle
      omega
    refine ⟨?_, ?_, ?_, ?_, ?_, ?_, ?_, ?_⟩ <;> simp only [permits, power, length, heat]
    · refine fun _ => ⟨?_, ?_⟩
      · exact drum.trans (decide_eq_decide.mpr (by omega))
      · exact air.trans (decide_eq_decide.mpr (by omega))
    · exact nofun
    · exact nofun
    · exact Nat.le_refl _
    · exact id
    · by_cases last : heldLen s = 3
      · simp [last]
      · have more : heldLen s - 3 ≠ 0 := by omega
        simp [last, counts, more]
    · intro blank
      have more := of_decide_eq_true blank
      omega
    · exact fun opened => absurd (hpm.door opened).1 some_held

theorem LoadsSound.viewChange (hl : LoadsSound s) (hcl : ClaimSound s) (hp : s.power = .running) :
    LoadsSound (viewChange s) := by
  have retested : LoadsSound (retestClaim s) := hl.of_lists (by simp) (by simp) (by simp) (by simp)
  have tested : LoadsSound (if (retestClaim s).admission.shedSettle = none then overcommitTest (retestClaim s)
      else retestClaim s) := by
    obtain ⟨sheds, stays⟩ := overcommitTest_outcome (s := retestClaim s)
    split
    · by_cases must : MustShed (retestClaim s)
      · rw [sheds must]
        exact retested.shed hcl.retestClaim (by simpa using hp) must.2.1
      · rwa [stays must]
    · exact retested
  exact tested.of_lists (by simp [Machine.viewChange]) (by simp [Machine.viewChange]) (by simp [Machine.viewChange])
    (by simp [Machine.viewChange])

/-! ## Peers that fall silent and leave (R111 to R113) -/

/-- The view holds one entry of a number. -/
theorem LineSound.entry_unique {e x : PeerEntry} (h : LineSound s) (he : e ∈ s.view) (hx : x ∈ s.view)
    (same : x.number = e.number) : x = e := by
  have distinct : (s.view.map (·.number)).Nodup := by
    rw [List.Nodup, List.pairwise_map]
    exact h.viewRising.imp Nat.ne_of_lt
  exact List.inj_on_of_nodup_map distinct hx he same

/-- A test of the entry of a number is a test of that entry. -/
theorem LineSound.hasEntryThat_iff {e : PeerEntry} (h : LineSound s) (he : e ∈ s.view) (test : PeerEntry → Bool) :
    hasEntryThat test e.number s.view = test e := by
  rw [Bool.eq_iff_iff]
  simp only [hasEntryThat, List.any_eq_true, Bool.and_eq_true, beq_iff_eq]
  constructor
  · rintro ⟨x, hx, same, passes⟩
    rwa [h.entry_unique he hx same] at passes
  · exact fun passes => ⟨e, he, rfl, passes⟩

theorem PeerEntry.fallsSilent_iff (e : PeerEntry) : e.fallsSilent = true ↔ e.status = .present ∧ 600 ≤ e.heardAge := by
  cases h : e.status with
  | present =>
    simp only [PeerEntry.fallsSilent, h, true_and]
    exact decide_eq_true_iff
  | silent age => simp [PeerEntry.fallsSilent, h]

theorem PeerEntry.expires_iff (e : PeerEntry) : e.expires = true ↔ ∃ age, e.status = .silent age ∧ 12000 ≤ age := by
  cases h : e.status with
  | present => simp [PeerEntry.expires, h]
  | silent age =>
    simp only [PeerEntry.expires, h, PeerStatus.silent.injEq, exists_eq_left']
    exact decide_eq_true_iff

theorem exec_peerSilent {e : PeerEntry} (hp : s.power = .running) (h : LineSound s) (he : e ∈ s.view) :
    exec (.peerSilent e.number) s = .next (if e.fallsSilent then
      viewChange { s with view := silenceEntry e.number s.view } else s) := by
  rw [← h.hasEntryThat_iff he PeerEntry.fallsSilent]
  exact whenRunning_running _ hp

theorem exec_peerRemoved {e : PeerEntry} (hp : s.power = .running) (h : LineSound s) (he : e ∈ s.view) :
    exec (.peerRemoved e.number) s = .next (if e.expires then removeEntry e.number s else s) := by
  rw [← h.hasEntryThat_iff he PeerEntry.expires]
  exact whenRunning_running _ hp

theorem LineSound.silenceEntry_eq {e : PeerEntry} (h : LineSound s) (he : e ∈ s.view) (present : e.status = .present) :
    Machine.silenceEntry e.number s.view = s.view.map fun x =>
      if x.number = e.number then { x with status := .silent 0, claim := none, heardAge := 600 } else x := by
  refine List.map_congr_left fun x hx => if_congr ⟨And.left, fun same => ⟨same, ?_⟩⟩ rfl rfl
  rwa [h.entry_unique he hx same]

/-- The part with an entry taken out of its view, before the mode follows (R112). -/
def State.without (n : Nat) (s : State) : State :=
  viewChange { s with view := s.view.filter (fun x => x.number ≠ n) }

theorem removeEntry_eq (n : Nat) (s : State) :
    removeEntry n s = if (s.without n).view = [] then lastEntryRemoved (s.without n) else s.without n := by
  have same : (fun x : PeerEntry => x.number != n) = fun x => decide (x.number ≠ n) := by
    funext x
    rw [decide_not, bne, beq_eq_decide]
  rw [State.without, ← same]
  rfl

theorem without_frame (n : Nat) (s : State) : (s.without n).view = s.view.filter (fun x => x.number ≠ n)
    ∧ (s.without n).line.mode = s.line.mode ∧ (s.without n).settings = s.settings ∧ (s.without n).power = s.power := by
  simp [State.without]

/-- The mode follows the last entry's removal in BANKED alone (R103, R112). -/
theorem removeEntry_outcome (n : Nat) (s : State) :
    (removeEntry n s).view = (s.without n).view
    ∧ ((s.without n).view ≠ [] ∨ s.line.mode ≠ .banked → removeEntry n s = s.without n)
    ∧ ((s.without n).view = [] → s.line.mode = .banked →
      removeEntry n s
        = changeMode (if (cfg s).bankSize = 1 then .alone else .solo .noPeers) .peersGone (s.without n)) := by
  obtain ⟨-, mode, settings, -⟩ := without_frame n s
  rw [removeEntry_eq]
  by_cases gone : (s.without n).view = []
  · rw [if_pos gone, lastEntryRemoved, mode, cfg_congr settings]
    cases s.line.mode <;> simp [gone]
  · rw [if_neg gone]
    exact ⟨rfl, fun _ => rfl, fun empty => absurd empty gone⟩

/-- Settles O53: an entry's two ages, and the mode that the last entry leaves. -/
theorem peersFallSilentAndLeave : Obligations.PeersFallSilentAndLeave := by
  rintro s n e hp hline hl hcl he rfl
  rw [exec_peerSilent hp hline he, exec_peerRemoved hp hline he]
  refine ⟨fun present old => ?_, fun heard => ?_, fun age silent old => ?_, fun stays => ?_⟩
  · rw [if_pos (e.fallsSilent_iff.mpr ⟨present, old⟩), hline.silenceEntry_eq he present]
  · refine congrArg _ (if_neg fun falls => ?_)
    obtain ⟨present, old⟩ := e.fallsSilent_iff.mp falls
    exact heard.elim (absurd present) (Nat.not_lt.mpr old)
  · obtain ⟨view, mode, -, power⟩ := without_frame e.number s
    have loads : LoadsSound (s.without e.number) :=
      LoadsSound.viewChange (hl.congr rfl rfl rfl) (hcl.congr rfl rfl rfl rfl) hp
    obtain ⟨same, stays, moves⟩ := removeEntry_outcome e.number s
    refine ⟨removeEntry e.number s, congrArg _ (if_pos (e.expires_iff.mpr ⟨age, silent, old⟩)), same.trans view, mode,
      ?_⟩
    rw [same]
    refine ⟨stays, fun gone banked one => ?_, fun gone banked more => ?_⟩
    · rw [moves gone banked, if_pos one]
      exact changeMode_to_shared .peersGone rfl _
    · rw [moves gone banked, if_neg more]
      exact changeMode_soloEntered .noPeers .peersGone loads (power.trans hp) (by simp [banked, LineMode.isSolo])
  · refine congrArg _ (if_neg fun expires => ?_)
    obtain ⟨age, silent, old⟩ := e.expires_iff.mp expires
    obtain present | ⟨age', silent', young⟩ := stays
    · simp [present] at silent
    · simp only [silent, PeerStatus.silent.injEq] at silent'
      omega

end Sys2Proof.Machine
end

section
/-! The ends of an attempt: a frame sent, a lost arbitration, a bit error and a held line (R94 to R98, R100, R103). -/

namespace Sys2Proof.Machine

variable {s t : State}

/-! ## A frame counted as sent (R96, R98, R125) -/

/-- The head frame gone with the failures cleared and the presence timer restarted. -/
def Line.headSent (rest : List QueuedFrame) (l : Line) : Line :=
  { l with queue := rest, failures := 0, presenceRunning := true, presenceTicks := 0 }

theorem restartPresence_dropHead {f : QueuedFrame} {rest : List QueuedFrame} (hq : s.line.queue = f :: rest)
    (mode : s.line.mode ≠ .off) : restartPresence (dropHead s) = { s with line := s.line.headSent rest } := by
  simp [restartPresence, dropHead, mode, hq, Line.headSent]

theorem tellSent_of_no_claim {f : QueuedFrame} (h : f.kind ≠ .claim ∨ announcedStep s = none) : tellSent f s = s := by
  unfold tellSent
  split
  · rename_i n u hc
    rw [if_neg]
    rintro ⟨kind, -⟩
    exact h.elim (absurd kind) fun free => by simp [announcedStep_sending hc] at free
  · rfl
  · rfl

/-- The sending of its CLAIM starts a claim's hold (R125). -/
theorem tellSent_of_claim {f : QueuedFrame} {n u : Nat} (kind : f.kind = .claim) (step : f.step = n)
    (hc : s.admission.claim = .sending n u) :
    tellSent f s = { s with admission := { s.admission with claim := .holding n u 0 } } := by
  simp only [tellSent, hc, kind, step, and_self, if_true]

/-- A frame other than a PRESENCE offered to a queue that has room (R99). -/
theorem offer_appended {f : QueuedFrame} (mode : s.line.mode ≠ .off) (kind : f.kind ≠ .presence)
    (room : s.line.queue.length < 4) : offer f s = { s with line := { s.line with queue := s.line.queue ++ [f] } } := by
  have free : s.line.queue.length < Config.transmitLimit := room
  rw [offer, if_neg mode, if_neg kind, if_pos free]

theorem clearFault_of_no_fault (h : s.line.mode ≠ .solo .lineFault) : clearFault s = s := by
  unfold clearFault
  split
  · contradiction
  all_goals rfl

theorem clearFault_of_fault (h : s.line.mode = .solo .lineFault) :
    clearFault s = s.inMode (modeByView s) .faultCleared := by
  simp only [clearFault, h]
  exact changeMode_in_solo _ _ h

/-! ## FRAME_SENT (R98) -/

section
variable {a : Attempt} {rest : List QueuedFrame}

theorem exec_frameSent (hp : s.power = .running) (ha : s.line.attempt = some a) :
    exec .frameSent s = .next (finishAttempt a s) := by
  have served : exec .frameSent s = execFrameSent s := rfl
  rw [served, execFrameSent, whenRunning_running _ hp]
  simp only [ha]

/-- The part once the frame under attempt has left the queue, before a fault is ended. -/
def State.frameRead (a : Attempt) (rest : List QueuedFrame) (s : State) : State :=
  { s with line := { (ownFrameRead a s).line.headSent rest with attempt := none } }

theorem frameRead_eq (hq : s.line.queue = a.frame :: rest) (mode : s.line.mode ≠ .off) :
    restartPresence (dropHead (ownFrameRead a s)) = s.frameRead a rest :=
  restartPresence_dropHead hq mode

/-- A frame sent with no WITHDRAWN held against it. -/
theorem finishAttempt_of_none (hw : a.heldWithdrawn = none) :
    finishAttempt a s = tellSent a.frame (clearFault (restartPresence (dropHead (ownFrameRead a s)))) := by
  simp only [finishAttempt, hw]

/-- A CLAIM sent with a WITHDRAWN held against it, in a queue that then has room. -/
theorem finishAttempt_of_some {w : QueuedFrame} (hw : a.heldWithdrawn = some w) :
    finishAttempt a s = resumeTestAtTick (offer w
      (tellSent a.frame (clearFault (restartPresence (dropHead (ownFrameRead a s)))))) := by
  simp only [finishAttempt, hw]

/-- The WITHDRAWN held against a CLAIM counted as sent joins a queue that has room, and the admission test resumes at
the next tick (R100, R127). -/
theorem withdrawn_follows {f w : QueuedFrame} (mode : s.line.mode ≠ .off) (kind : w.kind = .withdrawn)
    (room : s.line.queue.length < 4) (free : announcedStep s = none) :
    resumeTestAtTick (offer w (tellSent f s)) = { s with
      line := { s.line with queue := s.line.queue ++ [w] }
      admission := { s.admission with testAtTick := true } } := by
  rw [tellSent_of_no_claim (.inr free), offer_appended mode (by rw [kind]; nofun) room]
  rfl

/-- Settles O49: the frame out of the queue, then the fault ended, the claim told and a held WITHDRAWN queued. -/
theorem frameSentIsCounted : Obligations.FrameSentIsCounted := by
  intro s a rest hp hl ha hq read sent working fault found cleared
  rw [exec_frameSent hp ha]
  have room : rest.length < 4 := by
    have four := hl.queueFour
    simpa [hq] using four
  have works : working → clearFault (restartPresence (dropHead (ownFrameRead a s))) = { s with line := sent } :=
    fun ⟨on, sound⟩ => by
      rw [frameRead_eq hq on]
      exact clearFault_of_no_fault sound
  have clears : fault → clearFault (restartPresence (dropHead (ownFrameRead a s)))
      = { s with line := { sent with mode := found }, port := cleared } := fun hm => by
    rw [frameRead_eq hq (by rw [hm]; nofun)]
    exact clearFault_of_fault hm
  refine ⟨fun w none_held other => ?_, fun off free none_held => ?_, fun f none_held other => ?_, ?_, ?_⟩
  · rw [finishAttempt_of_none none_held, works w]
    exact congrArg _ (tellSent_of_no_claim other)
  · have read_back : restartPresence (dropHead (ownFrameRead a s)) = { s with line := { s.line with
        queue := rest, attempt := none, failures := 0, receiver := read } } := by
      refine (if_pos off).trans ?_
      simp only [dropHead, ownFrameRead, endAttempt, hq]
      rfl
    rw [finishAttempt_of_none none_held, read_back, clearFault_of_no_fault (by rw [off]; nofun)]
    exact congrArg _ (tellSent_of_no_claim (.inr (announcedStep_eq_none_iff.mpr free)))
  · rw [finishAttempt_of_none none_held, clears f]
    exact congrArg _ (tellSent_of_no_claim other)
  · intro n u none_held kind step hc
    refine ⟨fun w => ?_, fun f => ?_⟩
    · rw [finishAttempt_of_none none_held, works w]
      exact congrArg _ (tellSent_of_claim kind step hc)
    · rw [finishAttempt_of_none none_held, clears f]
      exact congrArg _ (tellSent_of_claim kind step hc)
  · intro w some_held claim withdrawn free
    have none_claimed := announcedStep_eq_none_iff.mpr free
    refine ⟨fun wk => ?_, fun f => ?_⟩
    · rw [finishAttempt_of_some some_held, works wk]
      exact congrArg _ (withdrawn_follows wk.1 withdrawn room none_claimed)
    · rw [finishAttempt_of_some some_held, clears f]
      exact congrArg _ (withdrawn_follows (modeByView_ne_off s) withdrawn room none_claimed)

end

end Sys2Proof.Machine
end

section
/-! Failed attempts: a lost arbitration, a bit error and a held line (R94 to R96, R100, R103, R127). -/

namespace Sys2Proof.Machine

variable {s t : State}

/-! ## A failed attempt of the head frame (R95, R96) -/

/-- A failure counts the head frame as sent (R96). -/
def CountsAsSent (s : State) : Prop :=
  s.line.mode = .solo .lineFault ∨ (s.line.mode = .solo .duplicateStation ∧ 7 ≤ s.line.failures)

/-- The modes in which the eighth failure is a line fault that changes the line's way of working (R95, R103). -/
def EntersFault (s : State) : Prop := s.line.mode = .banked ∨ s.line.mode = .alone ∨ s.line.mode = .joining

theorem failHead_of_few {f : QueuedFrame} (few : s.line.failures < 7) (mode : s.line.mode ≠ .solo .lineFault) :
    failHead f s = { s with line := { s.line with failures := s.line.failures + 1 } } := by
  have below : ¬ Config.failureLimit ≤ s.line.failures + 1 := by unfold Config.failureLimit; omega
  unfold failHead
  split
  · contradiction
  all_goals exact if_neg below

theorem failHead_of_counts {f : QueuedFrame} (h : CountsAsSent s) : failHead f s = countAsSent f s := by
  obtain mode | ⟨mode, many⟩ := h
  · simp only [failHead, mode]
  · have reached : Config.failureLimit ≤ s.line.failures + 1 := by unfold Config.failureLimit; omega
    simp only [failHead, mode, reached, if_true]

theorem failHead_of_off {f : QueuedFrame} (many : 7 ≤ s.line.failures) (mode : s.line.mode = .off) :
    failHead f s = dropHead s := by
  have reached : Config.failureLimit ≤ s.line.failures + 1 := by unfold Config.failureLimit; omega
  simp only [failHead, mode, reached, if_true]

theorem failHead_of_fault {f : QueuedFrame} (many : 7 ≤ s.line.failures)
    (mode : s.line.mode = .solo .noPeers ∨ EntersFault s) :
    failHead f s = lineFault { s with line := { s.line with failures := 8 } } := by
  have reached : Config.failureLimit ≤ s.line.failures + 1 := by unfold Config.failureLimit; omega
  obtain mode | mode | mode | mode := mode <;> simp only [failHead, mode, reached, if_true] <;> rfl

theorem errorCountsAsSent_iff : errorCountsAsSent s = true ↔ CountsAsSent s := by
  unfold errorCountsAsSent CountsAsSent
  split
  · simp [*]
  · rename_i mode
    simp only [mode, Config.failureLimit]
    simp
  all_goals simp [*]

/-! ## The line fault (R95, R103) -/

/-- The join window ended early by a line fault or a duplicate (R102). -/
def State.windowEnded (s : State) : State :=
  { s with line := { s.line with
      joinRunning := false, presenceRunning := true
      presenceTicks := if s.line.presenceRunning then s.line.presenceTicks else 0 } }

theorem endJoinEarly_eq (s : State) :
    endJoinEarly s = if s.line.mode = .joining then s.windowEnded else s := by
  unfold endJoinEarly State.windowEnded
  refine if_congr Iff.rfl ?_ rfl
  dsimp only
  by_cases runs : s.line.presenceRunning = true <;> simp [runs]

theorem lineFault_in_solo {cause : SoloCause} (mode : s.line.mode = .solo cause) :
    lineFault s = s.inMode (.solo .lineFault) .lineFault := by
  rw [lineFault, endJoinEarly_eq, if_neg (by rw [mode]; nofun)]
  exact changeMode_in_solo _ _ mode

/-- The line fault in a mode that is left for SOLO (R95, R103). -/
theorem lineFault_soloEntered (hl : LoadsSound s) (hp : s.power = .running) (mode : EntersFault s) :
    SoloEntered .lineFault .lineFault (if s.line.mode = .joining then s.windowEnded else s) (lineFault s) := by
  rw [lineFault, endJoinEarly_eq]
  refine changeMode_soloEntered _ _ ?_ ?_ ?_
  · split
    · exact hl.congr rfl rfl rfl
    · exact hl
  · split
    · exact hp
    · exact hp
  · obtain mode | mode | mode := mode <;> simp [mode, State.windowEnded, LineMode.isSolo]

/-! ## What a failed attempt leaves (R95, R96, R103) -/

section
variable {f : QueuedFrame} {rest : List QueuedFrame}

theorem CountsAsSent.mode_ne_off (h : CountsAsSent s) : s.line.mode ≠ .off := by
  obtain mode | ⟨mode, -⟩ := h <;> rw [mode] <;> nofun

theorem failHead_sent (h : CountsAsSent s) (hq : s.line.queue = f :: rest)
    (other : f.kind ≠ .claim ∨ announcedStep s = none) :
    failHead f s = { s with line := s.line.headSent rest } := by
  rw [failHead_of_counts h, countAsSent, restartPresence_dropHead hq h.mode_ne_off]
  exact tellSent_of_no_claim other

theorem failHead_sent_claim {n u : Nat} (h : CountsAsSent s) (hq : s.line.queue = f :: rest) (kind : f.kind = .claim)
    (step : f.step = n) (hc : s.admission.claim = .sending n u) : failHead f s = { s with
      line := s.line.headSent rest, admission := { s.admission with claim := .holding n u 0 } } := by
  rw [failHead_of_counts h, countAsSent, restartPresence_dropHead hq h.mode_ne_off]
  exact tellSent_of_claim kind step hc

/-- The part at its eighth failure (R95). -/
def State.eighth (s : State) : State := { s with line := { s.line with failures := 8 } }

theorem failHead_in_solo (many : 7 ≤ s.line.failures) (mode : s.line.mode = .solo .noPeers) :
    failHead f s = s.eighth.inMode (.solo .lineFault) .lineFault := by
  rw [failHead_of_fault many (.inl mode)]
  exact lineFault_in_solo (s := s.eighth) mode

theorem failHead_soloEntered (hl : LoadsSound s) (hp : s.power = .running) (many : 7 ≤ s.line.failures)
    (mode : EntersFault s) : SoloEntered .lineFault .lineFault
      (if s.line.mode = .joining then s.eighth.windowEnded else s.eighth) (failHead f s) := by
  rw [failHead_of_fault many (.inr mode)]
  exact lineFault_soloEntered (s := s.eighth) (hl.congr rfl rfl rfl) hp mode

/-- The head frame keeps its place when a frame is offered, unless it may be given up (R99). -/
theorem offer_head (hq : s.line.queue = f :: rest) (stays : f.replaceable = false) (g : QueuedFrame) :
    (offer g s).line.queue.head? = some f := by
  unfold offer
  split
  · rw [hq, List.head?_cons]
  · split
    · rw [if_neg (by simp [hq]), hq, List.head?_cons]
    · split
      · simp [hq]
      · simp only [replaceInFull, hq]
        split
        · rfl
        · rw [if_neg (by simp [stays]), hq, List.head?_cons]

theorem soloEntry_head (hs : StepsSound s) (free : announcedStep s = none) (hq : s.line.queue = f :: rest)
    (stays : f.replaceable = false) : (soloEntry s).line.queue.head? = some f := by
  by_cases many : 3 + (cfg s).soloCap ≤ heldLen s
  · have none_claimed : announcedStep s.capped = none := by
      rw [← free, announcedStep, announcedStep, capped_admission many]
    have line : (soloEntry s).line = (releaseAtOnce (3 + (cfg s).soloCap) s).line := by
      rw [soloEntry_above hs many, (unchained_withdrawalFrame s.capped).1 none_claimed, (capped_frame s).2.1]
    rw [line]
    obtain ⟨few, -⟩ | ⟨-, he⟩ := releaseAtOnce_cases s (3 + (cfg s).soloCap)
    · omega
    · rw [he]
      exact offer_head (s := takeAway _ s) (rest := rest) (by simpa using hq) stays _
  · have same : soloEntry s = s := by
      have none_above : capHeldSteps s = s := if_neg many
      simp only [soloEntry, none_above, free]
    rw [same, hq, List.head?_cons]

/-- A CLAIM at the head stays there through the line fault that its eighth failure makes. -/
theorem failHead_head (hl : LoadsSound s) (many : 7 ≤ s.line.failures) (mode : EntersFault s)
    (free : announcedStep s = none) (hq : s.line.queue = f :: rest) (stays : f.replaceable = false) :
    (failHead f s).line.queue.head? = some f := by
  have shared : (endJoinEarly s.eighth).line.mode.isSolo = false := by
    obtain mode | mode | mode := mode <;> simp [mode, State.eighth, LineMode.isSolo]
  have admission : ((endJoinEarly s.eighth).inMode (.solo .lineFault) .lineFault).admission = s.admission := by
    simp [State.inMode, State.eighth]
  have queue : ((endJoinEarly s.eighth).inMode (.solo .lineFault) .lineFault).line.queue = f :: rest := by
    simpa [State.inMode, State.eighth] using hq
  rw [failHead_of_fault many (.inr mode), lineFault]
  refine (congrArg (·.line.queue.head?) (changeMode_entering .lineFault shared)).trans ?_
  exact soloEntry_head (hl.1.congr admission) (by rwa [announcedStep, admission]) queue stays

end

end Sys2Proof.Machine
end

section
/-! ARBITRATION_LOST, BIT_ERROR and LINE_HELD (R94 to R96, R100, R103, R127). -/

namespace Sys2Proof.Machine

variable {s t : State}

/-! ## The end of an attempt by a misread bit (R94, R95, R100) -/

section
variable {a : Attempt} {bit : Nat} {rest : List QueuedFrame}

/-- The part once a misread bit has ended its attempt, before the failure is judged. -/
def State.attemptOver (a : Attempt) (bit : Nat) (s : State) : State := endAttempt (misreadLevels a.bytes bit) s

theorem exec_arbitrationLost (hp : s.power = .running) (ha : s.line.attempt = some a) :
    exec (.arbitrationLost bit) s = .next (if bit < 10 ∧ (frameLevels a.bytes)[bit]? = some true then
      (if a.heldWithdrawn = none then s.attemptOver a bit else dropWithdrawnClaim (s.attemptOver a bit)) else s) := by
  have served : exec (.arbitrationLost bit) s = execArbitrationLost bit s := rfl
  have recessive : a.sentRecessive bit = true ↔ (frameLevels a.bytes)[bit]? = some true := by
    rw [Attempt.sentRecessive, List.getD_eq_getElem?_getD]
    cases (frameLevels a.bytes)[bit]? <;> simp
  rw [served, execArbitrationLost, whenRunning_running _ hp]
  simp only [ha, recessive]
  rfl

theorem exec_bitError (hp : s.power = .running) (ha : s.line.attempt = some a)
    (errs : bit < 120 ∧ (10 ≤ bit ∨ (frameLevels a.bytes).getD bit false = false)) :
    exec (.bitError bit) s = .next (failAttempt a bit s) := by
  have served : exec (.bitError bit) s = execBitError bit s := rfl
  rw [served, execBitError, whenRunning_running _ hp]
  simp only [ha]
  exact congrArg _ (if_pos errs)

theorem failAttempt_of_none (hw : a.heldWithdrawn = none) :
    failAttempt a bit s = failHead a.frame (s.attemptOver a bit) := by
  simp only [failAttempt, hw]
  rfl

/-- A withdrawn CLAIM whose failure does not count it as sent is removed (R100). -/
theorem failAttempt_of_dropped (hw : a.heldWithdrawn ≠ none) (h : ¬ CountsAsSent s) :
    failAttempt a bit s = dropWithdrawnClaim (failHead a.frame (s.attemptOver a bit)) := by
  obtain ⟨w, hw⟩ := Option.ne_none_iff_exists'.mp hw
  simp only [failAttempt, hw]
  exact if_neg fun counts => h (errorCountsAsSent_iff.mp counts)

/-- A withdrawn CLAIM that counts as sent is followed by its WITHDRAWN (R100). -/
theorem failAttempt_of_followed {w : QueuedFrame} (hw : a.heldWithdrawn = some w) (kind : w.kind = .withdrawn)
    (h : CountsAsSent s) (free : announcedStep s = none) (hq : s.line.queue = a.frame :: rest)
    (room : rest.length < 4) : failAttempt a bit s = { s with
      line := { (s.attemptOver a bit).line.headSent rest with queue := rest ++ [w] }
      admission := { s.admission with testAtTick := true } } := by
  have counts : errorCountsAsSent (s.attemptOver a bit) = true := errorCountsAsSent_iff.mpr h
  have sent : countAsSent a.frame (s.attemptOver a bit)
      = tellSent a.frame { s with line := (s.attemptOver a bit).line.headSent rest } := by
    rw [countAsSent, restartPresence_dropHead (s := s.attemptOver a bit) hq h.mode_ne_off]
    rfl
  simp only [failAttempt, hw]
  refine (if_pos counts).trans ?_
  refine (congrArg (fun u => resumeTestAtTick (offer w u)) sent).trans ?_
  exact withdrawn_follows (s := { s with line := (s.attemptOver a bit).line.headSent rest }) h.mode_ne_off kind room
    free

end

/-! ## The held line (R95) -/

/-- The modes in which a frame at the head waits to be sent (R99, R105). -/
theorem sendPermitted_iff {f : QueuedFrame} (hp : s.power = .running) : sendPermitted f s = true ↔
    s.line.mode = .banked ∨ s.line.mode = .alone ∨ (∃ cause, s.line.mode = .solo cause)
      ∨ (s.line.mode = .joining ∧ f.kind = .presence)
      ∨ (s.line.mode = .off ∧ f.leaving = true ∧ s.supply.supplyState ≠ .dormant) := by
  cases mode : s.line.mode <;> simp [sendPermitted, mode, transmitterOn, outOfReset, hp]

theorem exec_lineHeld {f : QueuedFrame} {rest : List QueuedFrame} (hp : s.power = .running)
    (free : s.line.attempt = none) (hq : s.line.queue = f :: rest) : exec .lineHeld s
      = .next (if sendPermitted f s = true ∧ 10 ≤ s.line.receiver.heldTicks then
          failHead f { s with line := { s.line with receiver := { s.line.receiver with heldTicks := 0 } } }
        else s) := by
  refine (whenRunning_running lineHeld hp).trans (congrArg _ ?_)
  by_cases permitted : sendPermitted f s = true
  · simp only [lineHeld, waitingFrame, free, hq, permitted, if_true, true_and]
    rfl
  · simp [lineHeld, waitingFrame, free, hq, permitted]

/-- Few failures, or a mode in which none counts as sent. -/
theorem not_countsAsSent (h : (s.line.failures < 7 ∧ s.line.mode ≠ .solo .lineFault) ∨ s.line.mode = .solo .noPeers
    ∨ EntersFault s) : ¬ CountsAsSent s := by
  rintro (fault | ⟨duplicate, many⟩)
  · obtain ⟨-, other⟩ | other | other | other | other := h
    · exact other fault
    all_goals simp [fault] at other
  · obtain ⟨few, -⟩ | other | other | other | other := h
    · omega
    all_goals simp [duplicate] at other

/-- Settles O48: an attempt that fails, and a line held while a frame waits. -/
theorem attemptFails : Obligations.AttemptFails := by
  intro s hp hl
  refine ⟨fun a rest bit ha hq => ?_, fun f rest free hq => ?_⟩
  · intro sent read ended counts errs
    have over_eq : s.attemptOver a bit = { s with line := ended } := rfl
    have room : rest.length < 4 := by
      have four := hl.queueFour
      simpa [hq] using four
    have none_fails (none_held : a.heldWithdrawn = none) (he : errs) :
        exec (.bitError bit) s = .next (failHead a.frame (s.attemptOver a bit)) :=
      (exec_bitError hp ha he).trans (congrArg _ (failAttempt_of_none none_held))
    have drops (some_held : a.heldWithdrawn ≠ none) (he : errs) (no : ¬ CountsAsSent s) :
        exec (.bitError bit) s = .next (dropWithdrawnClaim (failHead a.frame (s.attemptOver a bit))) :=
      (exec_bitError hp ha he).trans (congrArg _ (failAttempt_of_dropped some_held no))
    have tail : ended.queue.tail = rest := congrArg List.tail hq
    refine ⟨fun low recessive => ⟨fun none_held => ?_, fun some_held => ?_⟩, fun misread => ?_,
      fun he few mode => ⟨fun none_held => ?_, fun some_held => ?_⟩, fun he hc => ?_, fun he many off none_held => ?_,
      fun he many loads => ?_⟩
    · rw [exec_arbitrationLost hp ha, if_pos ⟨low, recessive⟩, if_pos none_held, over_eq]
    · rw [exec_arbitrationLost hp ha, if_pos ⟨low, recessive⟩, if_neg some_held, ← tail]
      rfl
    · rw [exec_arbitrationLost hp ha, if_neg]
      rintro ⟨low, recessive⟩
      exact misread.elim (Nat.not_le.mpr low) fun dominant => dominant recessive
    · rw [none_fails none_held he]
      exact congrArg _ (failHead_of_few few mode)
    · rw [drops some_held he (not_countsAsSent (.inl ⟨few, mode⟩)),
        failHead_of_few (s := s.attemptOver a bit) few mode, ← tail]
      rfl
    · intro gone
      refine ⟨fun none_held other => ?_, fun n u none_held kind step hclaim => ?_,
        fun w some_held kind none_claimed => ?_⟩
      · rw [none_fails none_held he]
        exact congrArg _ (failHead_sent (s := s.attemptOver a bit) hc hq other)
      · rw [none_fails none_held he]
        exact congrArg _ (failHead_sent_claim (s := s.attemptOver a bit) hc hq kind step hclaim)
      · rw [exec_bitError hp ha he, failAttempt_of_followed some_held kind hc none_claimed hq room]
        rfl
    · rw [none_fails none_held he, failHead_of_off (s := s.attemptOver a bit) many off, ← tail]
      rfl
    · intro eighth window told entry enters
      have entered (mode : enters) : entry (failHead a.frame (s.attemptOver a bit)) :=
        failHead_soloEntered (s := s.attemptOver a bit) (loads.congr rfl rfl rfl) hp many mode
      refine ⟨fun none_held => ⟨fun mode => ?_, fun mode => ⟨_, none_fails none_held he, entered mode⟩⟩,
        fun some_held => ⟨fun mode => ?_, fun mode none_claimed => ?_⟩⟩
      · rw [none_fails none_held he]
        exact congrArg _ (failHead_in_solo many mode)
      · rw [drops some_held he (not_countsAsSent (.inr (.inl mode))),
          failHead_in_solo (s := s.attemptOver a bit) many mode, ← tail]
        rfl
      · have claim : a.frame.replaceable = false := by simp [QueuedFrame.replaceable, hl.heldClaim a ha some_held]
        exact ⟨_, entered mode, failHead_head (s := s.attemptOver a bit) (loads.congr rfl rfl rfl) many mode
          none_claimed hq claim, drops some_held he (not_countsAsSent (.inr (.inr mode)))⟩
  · intro waits again counts
    have served := exec_lineHeld hp free hq
    refine ⟨fun idle => ?_, fun permits late => ?_⟩
    · rw [served, if_neg]
      rintro ⟨permitted, late⟩
      exact idle.elim (fun none_waits => none_waits ((sendPermitted_iff hp).mp permitted)) (Nat.not_lt.mpr late)
    · rw [if_pos ⟨(sendPermitted_iff hp).mpr permits, late⟩] at served
      rw [served]
      refine ⟨fun few mode => ?_, fun hc => ⟨fun other => ?_, fun n u kind step hclaim => ?_⟩, fun many off => ?_,
        fun many loads => ⟨fun mode => ?_, fun mode => ?_, fun mode => ?_⟩⟩
      · exact congrArg _ (failHead_of_few few mode)
      · exact congrArg _ (failHead_sent (s := { s with line := again }) hc hq other)
      · exact congrArg _ (failHead_sent_claim (s := { s with line := again }) hc hq kind step hclaim)
      · rw [failHead_of_off (s := { s with line := again }) many off]
        simp [dropHead, hq, again]
      · exact congrArg _ (failHead_in_solo many mode)
      · have entered := failHead_soloEntered (s := { s with line := again }) (f := f) (loads.congr rfl rfl rfl) hp many
          (mode.imp_right .inl)
        rw [if_neg (by obtain mode | mode := mode <;> simp [again, mode])] at entered
        exact ⟨_, rfl, entered⟩
      · have entered := failHead_soloEntered (s := { s with line := again }) (f := f) (loads.congr rfl rfl rfl) hp many
          (.inr (.inr mode))
        rw [if_pos mode] at entered
        exact ⟨_, rfl, entered⟩

end Sys2Proof.Machine
end

section
/-! A frame's levels and its bytes (R90, R92, R94, R97), and the attempt that sends it (R91, R93, R99, R105). -/

namespace Sys2Proof.Machine

variable {s t : State}

/-! ## Arbitration on byte 0 (R92, R94) -/

theorem arbitrationByte_fields {u n : Nat} (hu : u ≤ 15) (hn : n ≤ 15) :
    arbitrationByte u n ≤ 255 ∧ arbitrationByte u n / 16 = 15 - u ∧ arbitrationByte u n % 16 = n := by
  unfold arbitrationByte
  omega

/-- Byte 0 is sent from its most significant bit down: its bits are reversed and go least significant first (R94). -/
theorem charLevels_arbitration {a i : Nat} (data : 1 ≤ i ∧ i ≤ 8) :
    (charLevels (reverseByte (byte8 a)))[i]? = some (a.testBit (8 - i)) := by
  obtain ⟨j, rfl⟩ : ∃ j, i = j + 1 := ⟨i - 1, by omega⟩
  have eight : j < 8 := by omega
  have place : 8 - 1 - j = 8 - (j + 1) := by omega
  have low : 8 - (j + 1) < 8 := by omega
  have bit : (reverseByte (byte8 a)).getLsbD j = a.testBit (8 - (j + 1)) := by
    rw [reverseByte, BitVec.getLsbD_reverse, BitVec.getMsbD, place, byte8, BitVec.getLsbD_ofNat]
    simp only [eight, low, decide_true, Bool.true_and]
  change ((List.range 8).map (fun i => (reverseByte (byte8 a)).getLsbD i) ++ [true])[j]? = _
  rw [List.getElem?_append_left (by simpa using eight), List.getElem?_map, List.getElem?_range eight, ← bit]
  rfl

theorem charLevels_start (b : Byte) : (charLevels b)[0]? = some false := rfl

/-- The highest bit at which two numbers differ decides their order. -/
theorem exists_deciding_bit {a b : Nat} (hab : a < b) :
    ∃ k, a.testBit k = false ∧ b.testBit k = true ∧ ∀ j, k < j → a.testBit j = b.testBit j := by
  have differ : a ^^^ b ≠ 0 := fun same => hab.ne (Nat.xor_eq_zero_iff.mp same)
  obtain ⟨k, differs, above⟩ := Nat.exists_most_significant_bit differ
  have same : ∀ j, k < j → a.testBit j = b.testBit j := fun j hj => by
    simpa only [Nat.testBit_xor, bne_eq_false_iff_eq] using above j hj
  rw [Nat.testBit_xor] at differs
  cases ha : a.testBit k
  · exact ⟨k, ha, by simpa [ha] using differs, same⟩
  · have lower : b < a := Nat.lt_of_testBit k (by simpa [ha] using differs) ha fun j hj => (same j hj).symm
    omega

/-- Settles O47: the order of A, and the first bit at which two of them differ on the line. -/
theorem lowestArbitrationByteWins : Obligations.LowestArbitrationByteWins := by
  refine ⟨fun u n hu hn => arbitrationByte_fields hu hn, fun u n v m hu hn hv hm => ?_, fun a b ha hb hab => ?_⟩
  · unfold arbitrationByte
    omega
  · obtain ⟨k, dominant, recessive, above⟩ := exists_deciding_bit hab
    have eight : k < 8 := by
      by_contra far
      rw [Nat.testBit_lt_two_pow (Nat.lt_of_lt_of_le hb (Nat.pow_le_pow_right Nat.two_pos (Nat.not_lt.mp far)))]
        at recessive
      cases recessive
    have place : 8 - (8 - k) = k := by omega
    refine ⟨8 - k, by omega, List.ext_getElem? fun i => ?_, ?_, ?_⟩
    · by_cases before : i < 8 - k
      · rw [List.getElem?_take_of_lt before, List.getElem?_take_of_lt before]
        by_cases start : i = 0
        · rw [start, charLevels_start, charLevels_start]
        · rw [charLevels_arbitration (by omega), charLevels_arbitration (by omega), above _ (by omega)]
      · rw [List.getElem?_eq_none (by simp; omega), List.getElem?_eq_none (by simp; omega)]
    · rw [charLevels_arbitration (by omega), place, dominant]
    · rw [charLevels_arbitration (by omega), place, recessive]

/-! ## The bytes of a frame (R97) -/

/-- A frame's fields are in the ranges that its bytes carry (R97). -/
structure Frame.InRange (f : Frame) : Prop where
  arb : f.arb ≤ 255
  feeder : f.feeder ≤ 4095
  duct : f.duct ≤ 4095
  prefixLen : f.prefixLen ≤ 6
  step : f.step ≤ 6

theorem frameKindOf_code (k : FrameKind) : frameKindOf (byte8 k.code) = some k := by
  cases k <;> decide

theorem stationStateOf_code (k : StationState) : stationStateOf (byte8 k.code) = some k := by
  cases k <;> decide

/-- A number carried in two bytes. -/
theorem bytes16_value {n : Nat} (h : n < 65536) : (byte8 (n / 256)).toNat * 256 + (byte8 n).toNat = n := by
  simp only [byte8, BitVec.toNat_ofNat]
  omega

theorem nibbles_fields {high low : Nat} (hh : high ≤ 15) (hl : low ≤ 15) :
    (nibbles high low).toNat / 16 = high ∧ (nibbles high low).toNat % 16 = low := by
  simp only [nibbles, byte8, BitVec.toNat_ofNat]
  omega

/-- What is sent is read back (R97). -/
theorem Frame.InRange.frameOf_bytes {f : Frame} (h : f.InRange) : frameOf f.bytes = some f := by
  obtain ⟨arb, feeder, duct, prefixLen, step⟩ := h
  obtain ⟨high, low⟩ := nibbles_fields (high := f.prefixLen) (low := f.step) (by omega) (by omega)
  have arb_read : (reverseByte (byteAt f.bytes 0)).toNat = f.arb := by
    change (reverseByte (reverseByte (byte8 f.arb))).toNat = f.arb
    simp only [reverseByte, BitVec.reverse_reverse_eq, byte8, BitVec.toNat_ofNat]
    omega
  have kind_read : frameKindOf (byteAt f.bytes 1) = some f.kind := frameKindOf_code f.kind
  have station_read : stationStateOf (byteAt f.bytes 2) = some f.station := stationStateOf_code f.station
  have feeder_read : num16 f.bytes 3 = f.feeder := bytes16_value (by omega)
  have duct_read : num16 f.bytes 5 = f.duct := bytes16_value (by omega)
  have prefix_read : num8 f.bytes 7 / 16 = f.prefixLen := high
  have step_read : num8 f.bytes 7 % 16 = f.step := low
  have feeder_delta : byteAt f.bytes 8 = f.feederDelta := rfl
  have duct_delta : byteAt f.bytes 9 = f.ductDelta := rfl
  have crc_read : num16 f.bytes 10 = (crc16 (f.bytes.take 10)).toNat := bytes16_value (crc16 f.fieldBytes).isLt
  simp only [frameOf, kind_read, station_read, arb_read, feeder_read, duct_read, prefix_read, step_read, feeder_delta,
    duct_delta, crc_read, BitVec.ofNat_toNat, BitVec.setWidth_eq]
  exact if_pos ⟨rfl, trivial, feeder, duct, prefixLen, step⟩

/-! ## An attempt begins (R91, R93, R99, R105) -/

section
variable {f : QueuedFrame} {rest : List QueuedFrame} {c : Settings}

theorem exec_attemptStart (hp : s.power = .running) : exec .attemptStart s = .next (match waitingFrame s with
    | some f => if s.line.receiver.idleCount = 12 then beginAttempt f s else s
    | none => s) := by
  have served : exec .attemptStart s = execAttemptStart s := rfl
  rw [served, execAttemptStart, whenRunning_running _ hp]
  rfl

theorem waitingFrame_of_head (free : s.line.attempt = none) (hq : s.line.queue = f :: rest) :
    waitingFrame s = if sendPermitted f s then some f else none := by
  simp only [waitingFrame, free, hq]

theorem exec_attemptStart_begins (hp : s.power = .running) (free : s.line.attempt = none)
    (hq : s.line.queue = f :: rest) (idle : s.line.receiver.idleCount = 12) (permitted : sendPermitted f s = true) :
    exec .attemptStart s = .next (beginAttempt f s) := by
  rw [exec_attemptStart hp, waitingFrame_of_head free hq, if_pos permitted]
  exact congrArg _ (if_pos idle)

theorem beginAttempt_keepsAllBut (hc : s.settings = some c) : KeepsAllBut [.line] s (beginAttempt f s) := by
  intro b hb
  cases b <;> simp [Block.Same, beginAttempt, hc] at hb ⊢

theorem fillFrame_arb (hc : s.settings = some c) : (fillFrame f s).arb = (15 - urgency s) * 16 + c.station := by
  simp only [fillFrame, frameStation, hc]
  rfl

theorem deltaByte_toNat {delta : Nat} (h : delta ≤ 255) : (deltaByte delta).toNat = delta := by
  rw [deltaByte, if_pos h, byte8, BitVec.toNat_ofNat, Nat.mod_eq_of_lt (by omega)]

theorem fillFrame_own (stays : f.leaving = false) : (fillFrame f s).feeder = ownFeeder s
    ∧ (fillFrame f s).duct = ownDuct s ∧ (fillFrame f s).prefixLen = heldLen s
    ∧ (fillFrame f s).station = (if s.line.mode = .joining then .joining
      else if s.admission.pending ≠ [] then .waiting
      else if s.admission.held ≠ [] then .running
      else if s.context.cycleState = .stopped then .stopped else .idle) := by
  simp [fillFrame, stationStateFor, stays]

/-- A frame other than a PRESENCE carries the fields it was queued with (R93). -/
theorem fillFrame_queued (kind : f.kind ≠ .presence) : (fillFrame f s).step = f.step
    ∧ (f.feederDelta ≤ 255 → (fillFrame f s).feederDelta.toNat = f.feederDelta)
    ∧ (f.ductDelta ≤ 255 → (fillFrame f s).ductDelta.toNat = f.ductDelta) := by
  simp only [fillFrame, kind, if_false]
  exact ⟨trivial, deltaByte_toNat, deltaByte_toNat⟩

/-- A PRESENCE repeats the claim while it is HOLDING (R93). -/
theorem fillFrame_presence_holding {n u k : Nat} (kind : f.kind = .presence) (hc : s.admission.claim = .holding n u k)
    (feeder : stepFeeder (cfg s) n ≤ 255) (duct : stepDuct (cfg s) n ≤ 255) : (fillFrame f s).step = n
    ∧ (fillFrame f s).feederDelta.toNat = stepFeeder (cfg s) n
    ∧ (fillFrame f s).ductDelta.toNat = stepDuct (cfg s) n := by
  simp only [fillFrame, presenceStep, kind, hc, if_true]
  exact ⟨trivial, deltaByte_toNat feeder, deltaByte_toNat duct⟩

theorem fillFrame_presence_no_claim (kind : f.kind = .presence) (hc : ∀ n u k, s.admission.claim ≠ .holding n u k) :
    (fillFrame f s).step = 0 ∧ (fillFrame f s).feederDelta = 0 ∧ (fillFrame f s).ductDelta = 0 := by
  have none_held : presenceStep s = 0 := by
    unfold presenceStep
    split
    · exact absurd ‹_› (hc _ _ _)
    all_goals rfl
  simp only [fillFrame, none_held, kind, if_true]
  exact ⟨trivial, rfl, rfl⟩

theorem fillFrame_step_le (step : f.step ≤ 6) (claim : ∀ n u k, s.admission.claim = .holding n u k → n ≤ 6) :
    (fillFrame f s).step ≤ 6 := by
  by_cases kind : f.kind = .presence
  · by_cases held : ∃ n u k, s.admission.claim = .holding n u k
    · obtain ⟨n, u, k, hc⟩ := held
      simpa only [fillFrame, presenceStep, kind, hc, if_true] using claim n u k hc
    · push Not at held
      rw [(fillFrame_presence_no_claim kind held).1]
      omega
  · rw [(fillFrame_queued kind).1]
    exact step

/-- Settles O46: the frame that the station's state fills, and every case in which no attempt begins. -/
theorem attemptDescribesTheStation : Obligations.AttemptDescribesTheStation := by
  refine ⟨fun s f rest c hp free hq idle hc station stays feeder duct step held ownF ownD urg claim mode => ?_,
    fun s hp => ⟨fun f rest c free hq idle hc off leaving on kind => ?_, fun none_begins => ?_⟩⟩
  · have settings : cfg s = c := by simp [cfg, hc]
    have permitted : sendPermitted f s = true :=
      (sendPermitted_iff hp).mpr (mode.imp_right (Or.imp_right (Or.imp_right .inl)))
    have arb := fillFrame_arb (f := f) hc
    obtain ⟨carried, high, low⟩ := arbitrationByte_fields urg (Nat.le_of_lt_succ station)
    obtain ⟨ownFeeder_eq, ownDuct_eq, prefix_eq, station_eq⟩ := fillFrame_own (s := s) stays
    have range : (fillFrame f s).InRange :=
      ⟨arb ▸ carried, ownFeeder_eq ▸ ownF, ownDuct_eq ▸ ownD, prefix_eq ▸ held,
        fillFrame_step_le step fun n u k hk => (claim n u k hk).1⟩
    refine ⟨beginAttempt f s, ⟨f, (fillFrame f s).bytes, none⟩, fillFrame f s,
      exec_attemptStart_begins hp free hq idle permitted, rfl, rfl, rfl, rfl, range.frameOf_bytes, ?_, ?_, arb, rfl,
      ownFeeder_eq, ownDuct_eq, prefix_eq, station_eq, fun kind => ?_, fun kind => ⟨fun n u k hk => ?_, ?_⟩,
      beginAttempt_keepsAllBut hc⟩
    · rw [Frame.number, arb]
      exact low
    · rw [Frame.urgency, arb]
      unfold arbitrationByte at high
      omega
    · obtain ⟨step_eq, feeder_eq, duct_eq⟩ := fillFrame_queued (s := s) kind
      exact ⟨step_eq, feeder_eq feeder, duct_eq duct⟩
    · obtain ⟨-, stepF, stepD⟩ := claim n u k hk
      rw [← settings] at stepF stepD ⊢
      exact fillFrame_presence_holding kind hk stepF stepD
    · exact fillFrame_presence_no_claim kind
  · have permitted : sendPermitted f s = true :=
      (sendPermitted_iff hp).mpr (.inr (.inr (.inr (.inr ⟨off, leaving, on⟩))))
    obtain ⟨step_eq, feeder_eq, -⟩ := fillFrame_queued (s := s) kind
    have described : (fillFrame f s).station = .leaving ∧ (fillFrame f s).feeder = 0 ∧ (fillFrame f s).duct = 0
        ∧ (fillFrame f s).prefixLen = 0 := by
      simp [fillFrame, stationStateFor, leaving]
    obtain ⟨station_eq, feeder_none, duct_none, prefix_none⟩ := described
    exact ⟨beginAttempt f s, fillFrame f s, exec_attemptStart_begins hp free hq idle permitted, rfl, station_eq,
      feeder_none, duct_none, prefix_none, rfl, step_eq, fillFrame_arb hc, feeder_eq, beginAttempt_keepsAllBut hc⟩
  · rw [exec_attemptStart hp]
    refine congrArg _ ?_
    cases hw : waitingFrame s with
    | none => rfl
    | some f =>
      obtain ⟨free, head, permitted⟩ := waitingFrame_some hw
      refine if_neg fun idle => ?_
      obtain busy | empty | other | ⟨g, rest, hq, away⟩ := none_begins
      · exact busy free
      · simp [empty] at head
      · exact other idle
      · obtain rfl : g = f := by simpa [hq] using head
        have waits := (sendPermitted_iff hp).mp permitted
        obtain ⟨joining, kind⟩ | ⟨off, silent⟩ := away
        · simp [joining, kind] at waits
        · obtain silent | silent := silent <;> simp [off, silent] at waits

end

end Sys2Proof.Machine
end

section
/-! The receiver over whole characters and the quiet after them (R90, R91). -/

namespace Sys2Proof.Machine

variable {r : Receiver}

/-! ## One character (R90) -/

theorem testBit_foldr_bits (bits : List Bool) (i : Nat) :
    (bits.foldr (fun (b : Bool) n => 2 * n + b.toNat) 0).testBit i = bits.getD i false := by
  induction bits generalizing i with
  | nil => simp
  | cons b rest ih =>
    rw [List.foldr_cons]
    cases i with
    | zero => cases b <;> simp [Nat.testBit_zero, Nat.add_mod]
    | succ i =>
      rw [Nat.testBit_succ, List.getD_cons_succ, ← ih]
      congr 1
      have one := b.toNat_le
      omega

/-- The data bits of a character are those of its byte, the first sampled least significant (R90). -/
def dataLevels (b : Byte) : List Bool := (List.range 8).map fun i => b.getLsbD i

theorem charLevels_eq (b : Byte) : charLevels b = false :: (dataLevels b ++ [true]) := rfl

theorem byteOfBits_dataLevels (b : Byte) : byteOfBits (dataLevels b) = b := by
  refine BitVec.eq_of_getLsbD_eq fun i hi => ?_
  rw [byteOfBits, byte8, BitVec.getLsbD_ofNat, testBit_foldr_bits, dataLevels]
  simp [hi, List.getD_eq_getElem?_getD]

/-- Data bits sampled inside a character join it. -/
theorem run_data {bits : List Bool} (data : List Bool) (hc : r.character = some bits)
    (few : bits.length + data.length ≤ 8) : ∃ level idle, r.run data
      = ({ r with level := level, idleCount := idle, character := some (bits ++ data) }, []) := by
  induction data generalizing r bits with
  | nil => exact ⟨r.level, r.idleCount, by rw [List.append_nil, ← hc]; rfl⟩
  | cons d rest ih =>
    rw [List.length_cons] at few
    have eight : bits.length < Config.dataBits := by unfold Config.dataBits; omega
    have first : r.sample d = ({ r with
        level := d, character := some (bits ++ [d])
        idleCount := if d then min Config.idleLimit (r.idleCount + 1) else 0 }, none) := by
      simp only [Receiver.sample, hc, Receiver.bitSample, if_pos eight]
    obtain ⟨level, idle, later⟩ := ih (r := (r.sample d).1) (bits := bits ++ [d]) (by rw [first])
      (by rw [List.length_append, List.length_singleton]; omega)
    refine ⟨level, idle, ?_⟩
    rw [Receiver.run, later, first]
    simp

/-- A start edge, eight data bits and a stop bit: a character gathered, with a framing error where the stop bit is
dominant (R90). -/
theorem run_character {data : List Bool} {stop : Bool} (level : r.level = true) (outside : r.character = none)
    (short : r.long = false) (few : r.chars.length < 12) (eight : data.length = 8) :
    r.run (false :: (data ++ [stop]))
      = ({ r with level := stop, chars := r.chars ++ [⟨byteOfBits data, !stop⟩], idleCount := 0 }, []) := by
  have edge : r.sample false = ({ r with level := false, character := some [], idleCount := 0 }, none) := by
    have room : r.chars.length < Config.frameChars := few
    simp only [Receiver.sample, outside, Receiver.edge, level, short, room]
    rfl
  obtain ⟨level', idle, gathered⟩ :=
    run_data (r := (r.sample false).1) (bits := []) data (by rw [edge]) (by simp [eight])
  have stopped : ¬ ([] ++ data).length < Config.dataBits := by simp [eight, Config.dataBits]
  rw [Receiver.run, run_append, gathered, edge]
  simp only [Receiver.run, Receiver.sample, Receiver.bitSample, if_neg stopped]
  simp [outside]

/-! ## The characters of a frame, sent back to back (R91) -/

/-- A character received as it was sent. -/
def LineChar.clear (b : Byte) : LineChar := ⟨b, false⟩

theorem run_charLevels (b : Byte) (level : r.level = true) (outside : r.character = none) (short : r.long = false)
    (few : r.chars.length < 12) :
    r.run (charLevels b) = ({ r with chars := r.chars ++ [.clear b], idleCount := 0 }, []) := by
  have eight : (dataLevels b).length = 8 := by simp [dataLevels]
  rw [charLevels_eq, run_character level outside short few eight, byteOfBits_dataLevels]
  simp [LineChar.clear, level]

theorem frameLevels_cons (b : Byte) (bytes : List Byte) :
    frameLevels (b :: bytes) = charLevels b ++ frameLevels bytes := by
  simp [frameLevels]

/-- Characters that follow one another without a gap are gathered in their order. -/
theorem run_frameLevels_next (bytes : List Byte) (level : r.level = true) (outside : r.character = none)
    (short : r.long = false) (idle : r.idleCount = 0) (room : r.chars.length + bytes.length ≤ 12) :
    r.run (frameLevels bytes) = ({ r with chars := r.chars ++ bytes.map .clear, idleCount := 0 }, []) := by
  induction bytes generalizing r with
  | nil =>
    have same : ({ r with idleCount := 0 } : Receiver) = r := by rw [← idle]
    simp [frameLevels, Receiver.run, same]
  | cons b rest ih =>
    rw [List.length_cons] at room
    have first := run_charLevels b level outside short (by omega)
    have later := ih (r := (r.run (charLevels b)).1) (by rw [first]; exact level) (by rw [first]; exact outside)
      (by rw [first]; exact short) (by rw [first]) (by rw [first, List.length_append, List.length_singleton]; omega)
    rw [frameLevels_cons, run_append, later, first]
    simp

/-- Up to twelve characters sent back to back to a receiver outside a character, the line recessive. -/
theorem run_frameLevels {bytes : List Byte} (level : r.level = true) (outside : r.character = none)
    (short : r.long = false) (some_sent : bytes ≠ []) (room : r.chars.length + bytes.length ≤ 12) :
    r.run (frameLevels bytes) = ({ r with chars := r.chars ++ bytes.map .clear, idleCount := 0 }, []) := by
  obtain ⟨b, rest, rfl⟩ := List.exists_cons_of_ne_nil some_sent
  rw [List.length_cons] at room
  have first := run_charLevels b level outside short (by omega)
  have later := run_frameLevels_next (r := (r.run (charLevels b)).1) rest (by rw [first]; exact level)
    (by rw [first]; exact outside) (by rw [first]; exact short) (by rw [first])
    (by rw [first, List.length_append, List.length_singleton]; omega)
  rw [frameLevels_cons, run_append, later, first]
  simp

/-! ## The quiet after a frame (R91) -/

/-- What the third recessive sample after a stop bit hands on. -/
def Receiver.handed (r : Receiver) : List Gathered :=
  if r.long || r.chars.isEmpty then [] else [⟨r.chars, r.own⟩]

theorem run_singleton (level : Bool) : r.run [level] = ((r.sample level).1, (r.sample level).2.toList) := by
  simp [Receiver.run]

theorem sample_quiet (outside : r.character = none) : r.sample true = r.quiet := by
  simp [Receiver.sample, outside]

/-- The third recessive sample after the last stop bit ends the frame. -/
theorem run_quiet_three (outside : r.character = none) (idle : r.idleCount = 0) :
    r.run (List.replicate 3 true) = (r.rested 3, r.handed) := by
  have handed : (if r.long = true ∨ r.chars = [] then none else some ⟨r.chars, r.own⟩ : Option Gathered).toList
      = r.handed := by
    simp only [Receiver.handed, Bool.or_eq_true, List.isEmpty_iff]
    split <;> rfl
  simp [Receiver.run, Receiver.sample, Receiver.quiet, outside, idle, Config.idleLimit, Config.frameEndIdle, handed]
  rfl

/-- Once a frame has ended further recessive samples only count. -/
theorem run_rested (k : Nat) : (r.rested 3).run (List.replicate k true) = (r.rested (3 + k), []) := by
  induction k with
  | zero => rfl
  | succ k ih =>
    have more : (r.rested (3 + k)).sample true = (r.rested (3 + (k + 1)), none) := by
      rw [sample_quiet rfl]
      have past : ¬ min 12 (min 12 (3 + k) + 1) = 3 := by omega
      have counts : min 12 (min 12 (3 + k) + 1) = min 12 (3 + (k + 1)) := by omega
      refine (if_neg past).trans ?_
      simp only [Receiver.rested, Config.idleLimit, counts, Prod.mk.injEq, Receiver.mk.injEq, true_and, and_true]
      (repeat' split) <;> omega
    rw [List.replicate_succ', run_append, ih, run_singleton, more]
    rfl

theorem run_quiet {quiet : Nat} (outside : r.character = none) (idle : r.idleCount = 0) (three : 3 ≤ quiet) :
    r.run (List.replicate quiet true) = (r.rested quiet, r.handed) := by
  obtain ⟨k, rfl⟩ := Nat.exists_eq_add_of_le three
  rw [List.replicate_add, run_append, run_quiet_three outside idle, run_rested, List.append_nil]

/-- The quiet after a last stop bit. -/
theorem run_then_quiet {u : Receiver} {levels : List Bool} {quiet : Nat} (gathered : r.run levels = (u, []))
    (outside : u.character = none) (idle : u.idleCount = 0) (three : 3 ≤ quiet) :
    r.run (levels ++ List.replicate quiet true) = (u.rested quiet, u.handed) := by
  rw [run_append, gathered, run_quiet outside idle three, List.nil_append]

/-! ## A frame received (R91, R97, R98) -/

theorem receivedFrame_clear (bytes : List Byte) :
    receivedFrame (bytes.map .clear) = if bytes.length = 12 then frameOf bytes else none := by
  have data : (bytes.map LineChar.clear).map (·.data) = bytes := by simp [LineChar.clear, Function.comp_def]
  have sound : (bytes.map LineChar.clear).all (fun c => !c.framingError) = true := by simp [LineChar.clear]
  simp only [receivedFrame, List.length_map, sound, data, and_true]
  rfl

theorem receivedFrame_of_length {chars : List LineChar} (h : chars.length ≠ 12) : receivedFrame chars = none :=
  if_neg fun twelve => h twelve.1

section
variable {s : State}

theorem watching_of_on (on : s.line.mode ≠ .off) : watching s.line = true := by
  simp [watching, on]

/-- The part with its receiver at rest after a frame's end. -/
def State.judged (quiet : Nat) (s : State) : State :=
  { s with line := { s.line with receiver := s.line.receiver.rested quiet } }

theorem exec_frameReceived {levels : List Bool} {quiet : Nat} {gathered : List Gathered} (hp : s.power = .running)
    (watches : watching s.line = true) (free : s.line.attempt = none)
    (run : s.line.receiver.run (levels ++ List.replicate quiet true) = (s.line.receiver.rested quiet, gathered)) :
    exec (.frameReceived levels quiet) s = .next (gathered.foldl (fun t g => endFrame g t) (s.judged quiet)) := by
  have served : exec (.frameReceived levels quiet) s = execFrameReceived levels quiet s := rfl
  have taken : (watching s.line && s.line.attempt.isNone) = true := by simp [watches, free]
  rw [served, execFrameReceived, whenRunning_running _ hp, receive, if_pos taken, run]
  rfl

/-- A frame end hands on nothing of this station's own, nothing invalid and nothing in OFF (R90, R97, R98). -/
theorem endFrame_discarded {g : Gathered} (h : s.line.mode = .off ∨ g.own = true ∨ receivedFrame g.chars = none) :
    endFrame g s = s := by
  unfold endFrame
  split
  · rfl
  · rename_i on
    obtain off | own | invalid := h
    · exact absurd (.inl off) on
    · exact absurd (.inr own) on
    · rw [invalid]

theorem endFrame_judged {g : Gathered} {f : Frame} (on : s.line.mode ≠ .off) (other : g.own = false)
    (valid : receivedFrame g.chars = some f) : endFrame g s = judgeFrame f s := by
  unfold endFrame
  rw [if_neg (by simp [on, other]), valid]

/-- The receiver over up to twelve characters and the quiet after them. -/
theorem Receiver.AtRest.run_frame {r : Receiver} {bytes : List Byte} {quiet : Nat} (h : r.AtRest)
    (some_sent : bytes ≠ []) (twelve : bytes.length ≤ 12) (three : 3 ≤ quiet) :
    r.run (frameLevels bytes ++ List.replicate quiet true) = (r.rested quiet, [⟨bytes.map .clear, false⟩]) := by
  obtain ⟨level, outside, chars, short, other⟩ := h
  have gathered := run_frameLevels level outside short some_sent (by simpa [chars] using twelve)
  rw [run_then_quiet gathered outside rfl three]
  simp [Receiver.handed, short, chars, other, some_sent, Receiver.rested]

end

end Sys2Proof.Machine
end

section
/-! Frames heard of other stations (R103, R106, R108 to R110, R125, R128). -/

namespace Sys2Proof.Machine

variable {s t : State}

/-! ## A peer's entry written (R103, R108, R110) -/

theorem hasEntry_iff {view : List PeerEntry} {number : Nat} :
    (!hasEntry view number) = true ↔ ∀ e ∈ view, e.number ≠ number := by
  simp [hasEntry]

/-- The view with a frame's entry, and BANKED where that entry is the first (R103). -/
def State.peerKnown (f : Frame) (s : State) : State :=
  let heard : State := { s with view := writeEntry (entryOf f) s.view }
  if (!hasEntry s.view f.number) = true ∧ (s.line.mode = .alone ∨ s.line.mode = .solo .noPeers) then
    heard.inMode .banked .peerHeard
  else heard

theorem entryCreated_eq (s : State) : entryCreated s
    = if s.line.mode = .alone ∨ s.line.mode = .solo .noPeers then s.inMode .banked .peerHeard else s := by
  have shared := changeMode_to_shared (mode := .banked) .peerHeard rfl s
  unfold entryCreated
  split <;> simp_all

theorem hearPeer_eq (f : Frame) (s : State) : hearPeer f s
    = if f.kind = .taken ∧ (f.step = 1 ∨ f.step = 2) then peerMotorStart (viewChange (s.peerKnown f))
      else viewChange (s.peerKnown f) := by
  have known : (if !hasEntry s.view f.number then entryCreated { s with view := writeEntry (entryOf f) s.view }
      else { s with view := writeEntry (entryOf f) s.view }) = s.peerKnown f := by
    rw [entryCreated_eq, State.peerKnown, ite_and]
  rw [← known]
  rfl

/-- A peer's TAKEN of DRUM or AIR restarts the spacing and withdraws a motor claim (R125, R128). -/
theorem peerMotorStart_withdrawnWhen (s : State) : WithdrawnWhen (fun n => n ≤ 2)
    { s with admission := { s.admission with spacing := some 0 } } (peerMotorStart s) := by
  refine withdrawnWhen_of (fun n hn motor => ?_) fun free => ?_
  · simp only [peerMotorStart, hn, if_pos motor]
  · unfold peerMotorStart
    dsimp only
    split
    · exact if_neg (free _ ‹_›)
    · rfl

theorem hearPeer_onlyFrames (f : Frame) (s : State) : OnlyFrames (s.peerKnown f) (hearPeer f s) := by
  rw [hearPeer_eq]
  split <;> exact onlyFrames_of (by simp)

theorem hearPeer_judged_keepsAllBut (f : Frame) (quiet : Nat) (s : State) :
    KeepsAllBut [.view, .line, .port, .admission, .permits] s (hearPeer f (s.judged quiet)) := by
  intro b hb
  cases b <;> simp [Block.Same, State.judged] at hb ⊢

/-- A valid frame read back to back and followed by the quiet is judged (R91, R97, R98). -/
theorem exec_frameReceived_whole {bytes : List Byte} {quiet : Nat} {f : Frame} (hp : s.power = .running)
    (on : s.line.mode ≠ .off) (free : s.line.attempt = none) (rest : s.line.receiver.AtRest)
    (twelve : bytes.length = 12) (three : 3 ≤ quiet) (valid : frameOf bytes = some f) :
    exec (.frameReceived (frameLevels bytes) quiet) s = .next (judgeFrame f (s.judged quiet)) := by
  have some_sent : bytes ≠ [] := by
    rintro rfl
    cases twelve
  have received : receivedFrame (bytes.map .clear) = some f := by
    rw [receivedFrame_clear, if_pos twelve, valid]
  rw [exec_frameReceived hp (watching_of_on on) free (rest.run_frame some_sent twelve.le three), List.foldl_cons,
    List.foldl_nil, endFrame_judged (s := s.judged quiet) on rfl received]

/-- Settles O50: the characters gathered, and the entry that their frame writes. -/
theorem peerFrameWritesTheView : Obligations.PeerFrameWritesTheView := by
  refine ⟨fun bytes r rest some_sent twelve => ?_,
    fun s f bytes quiet hp hl on free rest twelve three valid other => ?_⟩
  · obtain ⟨level, outside, chars, short, -⟩ := rest
    have gathered := run_frameLevels level outside short some_sent (by simpa [chars] using twelve)
    rwa [chars, List.nil_append] at gathered
  · intro number written created
    have served : exec (.frameReceived (frameLevels bytes) quiet) s = .next (hearPeer f (s.judged quiet)) := by
      rw [exec_frameReceived_whole hp on free rest twelve three valid, judgeFrame]
      exact congrArg _ (if_neg other)
    refine ⟨writeEntry (entryOf f) s.view, hearPeer f (s.judged quiet), served, writeEntry_rising _ hl.viewRising,
      fun e => mem_writeEntry hl.viewRising, ?_⟩
    intro heard known changed started
    have known_eq : (s.judged quiet).peerKnown f = known :=
      if_congr (and_congr_left' hasEntry_iff) rfl rfl
    have heard_eq := hearPeer_eq f (s.judged quiet)
    have line := hearPeer_onlyFrames f (s.judged quiet)
    rw [known_eq] at heard_eq line
    refine ⟨fun plain => ?_, fun taken motor => ?_, line, hearPeer_judged_keepsAllBut f quiet s⟩
    · rw [heard_eq, if_neg]
      rintro ⟨taken, motor⟩
      obtain other | ⟨drum, air⟩ := plain
      · exact other taken
      · exact motor.elim drum air
    · rw [heard_eq, if_pos ⟨taken, motor⟩]
      exact peerMotorStart_withdrawnWhen changed

end Sys2Proof.Machine
end

section
/-! Frames that are not judged, and a duplicate station (R91, R97, R98, R102 to R104). -/

namespace Sys2Proof.Machine

variable {r : Receiver} {s : State}

/-! ## A long frame (R91) -/

/-- The receiver while a long frame's line is ignored, or after it, when too few dominant samples remain for twelve
characters. -/
def Receiver.Spent (dominant : Nat) (r : Receiver) : Prop :=
  (r.long = true ∧ r.character = none ∧ dominant ≤ 11)
  ∨ (r.long = false ∧ r.chars.length + r.character.toList.length + dominant ≤ 11)

theorem Receiver.Spent.bitSample {dominant : Nat} {level : Bool} {bits : List Bool}
    (h : r.Spent (dominant + if level then 0 else 1)) (hc : r.character = some bits) :
    (r.bitSample bits level).Spent dominant := by
  obtain ⟨-, outside, -⟩ | ⟨short, few⟩ := h
  · simp [hc] at outside
  · refine .inr ?_
    rw [hc, Option.toList_some, List.length_singleton] at few
    unfold Receiver.bitSample
    split
    · refine ⟨short, ?_⟩
      simp only [Option.toList_some, List.length_singleton]
      omega
    · refine ⟨short, ?_⟩
      simp only [Option.toList_none, List.length_nil, List.length_append, List.length_singleton]
      omega

theorem Receiver.Spent.edge {dominant : Nat} (h : r.Spent (dominant + 1)) (outside : r.character = none) :
    r.edge.Spent dominant := by
  obtain ⟨long, -, few⟩ | ⟨short, few⟩ := h
  · refine .inl ?_
    simp only [Receiver.edge, long, Bool.not_true, Bool.and_false, Bool.false_eq_true, if_false]
    exact ⟨trivial, outside, by omega⟩
  · refine .inr ?_
    rw [outside, Option.toList_none, List.length_nil] at few
    have room : r.chars.length < Config.frameChars := show r.chars.length < 12 by omega
    simp only [Receiver.edge, if_pos room]
    split
    · refine ⟨short, ?_⟩
      simp only [Option.toList_some, List.length_singleton]
      omega
    · refine ⟨short, ?_⟩
      simp only [outside, Option.toList_none, List.length_nil]
      omega

theorem Receiver.Spent.quiet {dominant : Nat} (h : r.Spent dominant) (outside : r.character = none) :
    r.quiet.1.Spent dominant ∧ ∀ g ∈ r.quiet.2, g.chars.length ≠ 12 := by
  have few : dominant ≤ 11 := by
    obtain ⟨-, -, few⟩ | ⟨-, few⟩ := h <;> omega
  unfold Receiver.quiet
  dsimp only
  split
  · refine ⟨.inr ⟨rfl, ?_⟩, fun g hg => ?_⟩
    · simpa only [outside, Option.toList_none, List.length_nil, Nat.zero_add] using few
    · obtain ⟨long, -, -⟩ | ⟨short, few⟩ := h
      · simp [long] at hg
      · obtain ⟨-, rfl⟩ : _ ∧ _ = g := by simpa using hg
        dsimp only
        omega
  · exact ⟨h, nofun⟩

theorem Receiver.Spent.sample {dominant : Nat} {level : Bool} (h : r.Spent (dominant + if level then 0 else 1)) :
    (r.sample level).1.Spent dominant ∧ ∀ g ∈ (r.sample level).2, g.chars.length ≠ 12 := by
  obtain ⟨bits, hc, he⟩ | ⟨outside, rfl, he⟩ | ⟨outside, rfl, he⟩ := sample_cases level r <;> rw [he]
  · exact ⟨h.bitSample hc, nofun⟩
  · exact h.quiet outside
  · exact ⟨h.edge outside, nofun⟩

/-- A long frame hands nothing on, and what follows it within nine samples is too short (R91). -/
theorem Receiver.Spent.run {samples : List Bool} (h : r.Spent (samples.count false)) :
    ∀ g ∈ (r.run samples).2, g.chars.length ≠ 12 := by
  induction samples generalizing r with
  | nil => nofun
  | cons level rest ih =>
    have first : (r.sample level).1.Spent (rest.count false) ∧ ∀ g ∈ (r.sample level).2, g.chars.length ≠ 12 := by
      refine Receiver.Spent.sample ?_
      rw [List.count_cons] at h
      cases level <;> exact h
    intro g hg
    obtain hg | hg := List.mem_append.mp hg
    · exact first.2 g (Option.mem_toList.mp hg)
    · exact ih first.1 g hg

/-- The receiver keeps its counts: an idle line has nothing gathered, and no character is this station's own. -/
structure Receiver.Heard (r : Receiver) : Prop where
  other : r.own = false
  idle : r.idleCount ≤ 12
  ended : r.character = none → 3 ≤ r.idleCount → r.chars = [] ∧ r.long = false
  underWay : ∀ bits, r.character = some bits → bits.length ≤ 8

theorem Receiver.Heard.sample (level : Bool) (h : r.Heard) : (r.sample level).1.Heard := by
  obtain ⟨other, idle, ended, underWay⟩ := h
  have counted := sample_idleCount level r
  obtain ⟨bits, hc, he⟩ | ⟨outside, rfl, he⟩ | ⟨outside, rfl, he⟩ := sample_cases level r <;> rw [he] at counted ⊢
  · unfold Receiver.bitSample at counted ⊢
    split at counted
    · rename_i few
      rw [if_pos few]
      refine ⟨other, counted, nofun, ?_⟩
      rintro _ ⟨rfl⟩
      rw [List.length_append, List.length_singleton]
      exact few
    · rename_i many
      rw [if_neg many]
      exact ⟨other, counted, fun _ idle => absurd idle (by simp), nofun⟩
  · unfold Receiver.quiet at counted ⊢
    dsimp only at counted ⊢
    split at counted
    · rename_i third
      rw [if_pos third]
      exact ⟨rfl, counted, fun _ _ => ⟨rfl, rfl⟩, fun bits hb => underWay bits hb⟩
    · rename_i more
      rw [if_neg more]
      refine ⟨other, counted, fun _ past => ended outside ?_, fun bits hb => underWay bits hb⟩
      simp only [Config.idleLimit, Config.frameEndIdle] at more past
      omega
  · unfold Receiver.edge at counted ⊢
    (repeat' split)
    · exact ⟨other, Nat.zero_le _, nofun, by rintro _ ⟨rfl⟩; decide⟩
    all_goals exact ⟨other, Nat.zero_le _, fun _ idle => absurd idle (by simp), fun bits hb => underWay bits hb⟩

theorem Receiver.Heard.run (samples : List Bool) (h : r.Heard) : (r.run samples).1.Heard := by
  induction samples generalizing r with
  | nil => exact h
  | cons level rest ih => exact ih (h.sample level)

/-- The receiver of a line that has been quiet for long. -/
def Receiver.settled : Receiver := ⟨true, none, [], false, false, 12, 0⟩

/-- Recessive samples outside a character are counted up to 12. -/
theorem Receiver.Heard.run_idle (k : Nat) (h : r.Heard) (outside : r.character = none) :
    (r.run (List.replicate k true)).1.character = none
    ∧ (r.run (List.replicate k true)).1.idleCount = min 12 (r.idleCount + k) := by
  induction k with
  | zero => exact ⟨outside, (Nat.min_eq_right h.idle).symm⟩
  | succ k ih =>
    obtain ⟨still, counted⟩ := ih
    rw [List.replicate_succ', run_append, run_singleton]
    simp only [sample_quiet still, Receiver.quiet, counted, Config.idleLimit]
    split
    all_goals exact ⟨still, by dsimp only; omega⟩

theorem Receiver.Heard.run_settled {k : Nat} (h : r.Heard) (outside : r.character = none) (twelve : 12 ≤ k) :
    (r.run (List.replicate k true)).1 = Receiver.settled := by
  obtain ⟨m, rfl⟩ := Nat.exists_eq_succ_of_ne_zero (show k ≠ 0 by omega)
  obtain ⟨still, counted⟩ := h.run_idle m outside
  have last := h.run (List.replicate m true)
  rw [List.replicate_succ', run_append, run_singleton]
  generalize (r.run (List.replicate m true)).1 = u at *
  have full : min 12 (u.idleCount + 1) = 12 := by omega
  obtain ⟨chars, short⟩ := last.ended still (by omega)
  simp [sample_quiet still, Receiver.quiet, Config.idleLimit, Config.frameEndIdle, full, still, chars, short,
    last.other, Receiver.settled]

/-- A character under way is completed by at most nine recessive samples. -/
theorem Receiver.Heard.run_completed (h : r.Heard) : ∃ k ≤ 9, (r.run (List.replicate k true)).1.character = none := by
  cases hc : r.character with
  | none => exact ⟨0, by decide, hc⟩
  | some bits =>
    have eight := h.underWay bits hc
    obtain ⟨level, idle, data⟩ := run_data (List.replicate (8 - bits.length) true) hc (by simp; omega)
    refine ⟨8 - bits.length + 1, by omega, ?_⟩
    have stopped : ¬ (bits ++ List.replicate (8 - bits.length) true).length < Config.dataBits := by
      simp [Config.dataBits]
      omega
    rw [List.replicate_succ', run_append, data, run_singleton]
    simp only [Receiver.sample, Receiver.bitSample, if_neg stopped]

/-- Thirty recessive samples bring the receiver to rest whatever has gone before. -/
theorem Receiver.Heard.run_quiet {quiet : Nat} (h : r.Heard) (thirty : 30 ≤ quiet) :
    (r.run (List.replicate quiet true)).1 = Receiver.settled := by
  obtain ⟨k, nine, outside⟩ := h.run_completed
  obtain ⟨m, rfl⟩ := Nat.exists_eq_add_of_le (show k ≤ quiet by omega)
  rw [List.replicate_add, run_append]
  exact (h.run _).run_settled outside (by omega)

theorem Receiver.AtRest.heard (h : r.AtRest) (idle : r.idleCount ≤ 12) : r.Heard := by
  obtain ⟨-, outside, chars, short, other⟩ := h
  exact ⟨other, idle, fun _ _ => ⟨chars, short⟩, fun bits hb => by simp [outside] at hb⟩

/-- Thirteen characters and a long quiet: nothing of twelve characters is handed on (R91). -/
theorem Receiver.AtRest.run_long {bytes : List Byte} {quiet : Nat} (h : r.AtRest) (idle : r.idleCount ≤ 12)
    (thirteen : bytes.length = 13) (thirty : 30 ≤ quiet) :
    (r.run (frameLevels bytes ++ List.replicate quiet true)).1 = r.rested quiet
    ∧ ∀ g ∈ (r.run (frameLevels bytes ++ List.replicate quiet true)).2, g.chars.length ≠ 12 := by
  constructor
  · have settled : Receiver.settled = r.rested quiet := by
      have twelve : 12 ≤ quiet := by omega
      simp [Receiver.settled, Receiver.rested, twelve]
    rw [run_append, ← settled]
    exact ((h.heard idle).run _).run_quiet thirty
  · obtain ⟨level, outside, chars, short, -⟩ := h
    obtain ⟨first, b, rfl⟩ : ∃ first b, bytes = first ++ [b] := by
      obtain rfl | ⟨first, b, he⟩ := List.eq_nil_or_concat bytes
      · cases thirteen
      · exact ⟨first, b, he.trans List.concat_eq_append⟩
    have twelve : first.length = 12 := by simpa using thirteen
    have gathered := run_frameLevels (bytes := first) level outside short (by rintro rfl; cases twelve)
      (by simp [chars, twelve])
    have split : frameLevels (first ++ [b]) ++ List.replicate quiet true
        = frameLevels first ++ false :: (dataLevels b ++ [true] ++ List.replicate quiet true) := by
      simp [frameLevels, charLevels_eq]
    have few : (dataLevels b ++ [true] ++ List.replicate quiet true).count false ≤ 11 := by
      have data : (dataLevels b).count false ≤ 8 := (List.count_le_length).trans (by simp [dataLevels])
      simp [List.count_append, List.count_replicate]
      omega
    rw [split, run_append, gathered]
    intro g hg
    refine Receiver.Spent.run (.inl ⟨?_, ?_, few⟩) g (by simpa [Receiver.run, Receiver.sample, outside] using hg)
    · simp [Receiver.edge, level, short, chars, twelve, Config.frameChars]
    · simp [Receiver.edge, level, short, chars, twelve, Config.frameChars]

/-- Eleven characters and a dominant line for ten bit times: the twelfth has a framing error (R90). -/
theorem Receiver.AtRest.run_misframed {bytes : List Byte} {quiet : Nat} (h : r.AtRest) (eleven : bytes.length = 11)
    (three : 3 ≤ quiet) : ∃ c : LineChar, c.framingError = true
      ∧ r.run (frameLevels bytes ++ List.replicate 10 false ++ List.replicate quiet true)
        = (r.rested quiet, [⟨bytes.map .clear ++ [c], false⟩]) := by
  obtain ⟨level, outside, chars, short, other⟩ := h
  have gathered := run_frameLevels (bytes := bytes) level outside short (by rintro rfl; cases eleven)
    (by simp [chars, eleven])
  have broken := run_character (r := (r.run (frameLevels bytes)).1) (data := List.replicate 8 false) (stop := false)
    (by rw [gathered]; exact level) (by rw [gathered]; exact outside) (by rw [gathered]; exact short)
    (by rw [gathered]; simp [chars, eleven]) rfl
  refine ⟨⟨byteOfBits (List.replicate 8 false), true⟩, rfl, ?_⟩
  have ten : List.replicate 10 false = false :: (List.replicate 8 false ++ [false]) := rfl
  have all : r.run (frameLevels bytes ++ List.replicate 10 false) = ({ r with
      level := false
      chars := r.chars ++ bytes.map .clear ++ [⟨byteOfBits (List.replicate 8 false), true⟩]
      idleCount := 0 }, []) := by
    rw [gathered] at broken
    rw [run_append, gathered, ten]
    exact congrArg (fun x => (x.1, [] ++ x.2)) broken
  rw [run_then_quiet all outside rfl three]
  simp [Receiver.handed, short, chars, other, Receiver.rested]

end Sys2Proof.Machine
end

section
/-! Frames that change the receiver alone, and a duplicate station (R91, R97, R98, R102 to R104). -/

namespace Sys2Proof.Machine

variable {s : State} {bytes : List Byte} {quiet : Nat}

theorem foldl_endFrame_discarded {gathered : List Gathered}
    (h : ∀ g ∈ gathered, s.line.mode = .off ∨ g.own = true ∨ receivedFrame g.chars = none) :
    gathered.foldl (fun t g => endFrame g t) s = s := by
  induction gathered with
  | nil => rfl
  | cons g rest ih =>
    rw [List.foldl_cons, endFrame_discarded (h g List.mem_cons_self)]
    exact ih fun x hx => h x (List.mem_cons_of_mem g hx)

/-- Frames that are handed on to nobody leave the receiver at rest and nothing else changed. -/
theorem exec_frameReceived_discarded {levels : List Bool} {gathered : List Gathered} (hp : s.power = .running)
    (watches : watching s.line = true) (free : s.line.attempt = none)
    (run : s.line.receiver.run (levels ++ List.replicate quiet true) = (s.line.receiver.rested quiet, gathered))
    (h : ∀ g ∈ gathered, s.line.mode = .off ∨ g.own = true ∨ receivedFrame g.chars = none) :
    exec (.frameReceived levels quiet) s = .next (s.judged quiet) := by
  rw [exec_frameReceived hp watches free run, foldl_endFrame_discarded (s := s.judged quiet) h]

/-- A frame of this station's number that it did not send (R104). -/
theorem judgeFrame_own {f : Frame} (h : f.number = (cfg s).station) : judgeFrame f s = hearDuplicate s := if_pos h

/-- The duplicate marked, and a join window ended early by it (R102, R104). -/
def State.duplicateHeard (s : State) : State :=
  endJoinEarly { s with line := { s.line with duplicateMark := true } }

theorem hearDuplicate_first (h : s.line.duplicateMark = false) :
    hearDuplicate s = changeMode (.solo .duplicateStation) .duplicateStation s.duplicateHeard :=
  if_neg (by simp [h])

theorem duplicateHeard_eq (s : State) : s.duplicateHeard = { s with line := { s.line with
    duplicateMark := true
    joinRunning := if s.line.mode = .joining then false else s.line.joinRunning
    presenceRunning := if s.line.mode = .joining then true else s.line.presenceRunning
    presenceTicks :=
      if s.line.mode = .joining ∧ s.line.presenceRunning = false then 0 else s.line.presenceTicks } } := by
  rw [State.duplicateHeard, endJoinEarly_eq]
  by_cases joining : s.line.mode = .joining
  · cases runs : s.line.presenceRunning <;> simp [joining, State.windowEnded, runs]
  · simp [joining]

theorem LineMode.isSolo_eq_false {mode : LineMode} (h : ∀ cause, mode ≠ .solo cause) : mode.isSolo = false := by
  cases mode with
  | solo cause => exact absurd rfl (h cause)
  | _ => rfl

theorem exec_frameReceived_unwatched {levels : List Bool} (hp : s.power = .running) (blind : watching s.line = false) :
    exec (.frameReceived levels quiet) s = .next s := by
  have served : exec (.frameReceived levels quiet) s = execFrameReceived levels quiet s := rfl
  rw [served, execFrameReceived, whenRunning_running _ hp, receive, if_neg (by simp [blind])]

/-- A short frame, one that fails a check, and a long one (R91, R97). -/
theorem exec_frameReceived_invalid (hp : s.power = .running) (hl : LineSound s) (free : s.line.attempt = none)
    (rest : s.line.receiver.AtRest) (three : 3 ≤ quiet) (on : s.line.mode ≠ .off) (some_sent : bytes ≠ [])
    (invalid : bytes.length < 12 ∨ (bytes.length = 12 ∧ frameOf bytes = none) ∨ (bytes.length = 13 ∧ 30 ≤ quiet)) :
    exec (.frameReceived (frameLevels bytes) quiet) s = .next (s.judged quiet) := by
  by_cases long : bytes.length = 13
  · have thirty : 30 ≤ quiet := by
      obtain short | ⟨twelve, -⟩ | ⟨-, thirty⟩ := invalid <;> omega
    obtain ⟨run, short⟩ := rest.run_long hl.receiver.idle long thirty
    exact exec_frameReceived_discarded hp (watching_of_on on) free (Prod.ext run rfl) fun g hg =>
      .inr (.inr (receivedFrame_of_length (short g hg)))
  · have twelve : bytes.length ≤ 12 := by
      obtain short | ⟨twelve, -⟩ | ⟨thirteen, -⟩ := invalid <;> omega
    have fails : (if bytes.length = 12 then frameOf bytes else none) = none := by
      obtain short | ⟨-, fails⟩ | ⟨thirteen, -⟩ := invalid
      · exact if_neg short.ne
      · rw [fails, ite_self]
      · exact absurd thirteen long
    refine exec_frameReceived_discarded hp (watching_of_on on) free (rest.run_frame some_sent twelve three) fun g hg =>
      .inr (.inr ?_)
    obtain rfl := List.mem_singleton.mp hg
    rw [receivedFrame_clear, fails]

/-- Settles O51: frames handed on to nobody, a frame of this station's number, and what OFF discards. -/
theorem otherFramesReceived : Obligations.OtherFramesReceived := by
  intro s bytes quiet hp hl free rest three levels judged own
  have own_heard {f : Frame} (on : s.line.mode ≠ .off) (ho : own f) :
      exec (.frameReceived levels quiet) s = .next (hearDuplicate (s.judged quiet)) := by
    obtain ⟨valid, twelve, same⟩ := ho
    rw [exec_frameReceived_whole hp on free rest twelve three valid, judgeFrame_own (s := s.judged quiet) same]
  refine ⟨fun on some_sent invalid => ?_, fun on eleven => ?_, fun f on ho marked => ?_, fun f on ho unmarked hlo => ?_,
    fun off some_sent twelve => ?_, fun chars on some_read => ?_⟩
  · exact exec_frameReceived_invalid hp hl free rest three on some_sent invalid
  · obtain ⟨c, broken, run⟩ := rest.run_misframed (quiet := quiet) eleven three
    refine exec_frameReceived_discarded hp (watching_of_on on) free run fun g hg => .inr (.inr ?_)
    obtain rfl := List.mem_singleton.mp hg
    exact if_neg fun sound => by simp [broken] at sound
  · rw [own_heard on ho]
    exact congrArg _ (if_pos marked)
  · intro joining marked
    have marked_eq : (s.judged quiet).duplicateHeard = marked := duplicateHeard_eq _
    have heard : exec (.frameReceived levels quiet) s
        = .next (changeMode (.solo .duplicateStation) .duplicateStation marked) := by
      rw [own_heard on ho, hearDuplicate_first (s := s.judged quiet) unmarked, marked_eq]
    rw [heard]
    refine ⟨fun ⟨cause, mode⟩ => ?_, fun shared => ⟨_, rfl, ?_⟩⟩
    · exact congrArg _ (changeMode_in_solo (s := marked) _ _ mode)
    · refine changeMode_soloEntered _ _ (hlo.congr rfl rfl rfl) hp (LineMode.isSolo_eq_false shared)
  · split
    · rename_i none_queued
      exact exec_frameReceived_unwatched hp (by simp [watching, off, none_queued])
    · rename_i leaving
      exact exec_frameReceived_discarded hp (by simp [watching, leaving]) free (rest.run_frame some_sent twelve three)
        fun g _ => .inl off
  · intro read
    obtain ⟨-, outside, -, short, -⟩ := rest
    have run : read.run ([] ++ List.replicate quiet true) = (read.rested quiet, [⟨chars, true⟩]) := by
      rw [List.nil_append, run_quiet (r := read) outside rfl three]
      simp [Receiver.handed, read, short, some_read]
    refine exec_frameReceived_discarded (s := { s with line := { s.line with receiver := read } }) hp
      (watching_of_on on) free run fun g hg => .inr (.inl ?_)
    obtain rfl := List.mem_singleton.mp hg
    rfl

end Sys2Proof.Machine
end

section
/-! A view change at the Admission Unit (R110, R123 to R127, R135 to R137): the claim retested, then the feeder
overcommit test while no settle runs, then the duct overcommit test. -/

namespace Sys2Proof.Machine

variable {s : State}

/-! ## The claim retested (R124, R125, R127) -/

theorem retestClaim_holding {n u k : Nat} (hc : s.admission.claim = .holding n u k) :
    (Fits s n (arbOf s u) → retestClaim s = s) ∧ (¬ Fits s n (arbOf s u) → ClaimWithdrawn n s (retestClaim s)) := by
  simp only [← fits_iff, retestClaim, hc]
  refine ⟨fun roomy => if_pos roomy, fun tight => ?_⟩
  rw [if_neg tight]
  exact withdrawClaim_claimWithdrawn (announcedStep_holding hc)

theorem retestClaim_sending {n u : Nat} (hc : s.admission.claim = .sending n u) :
    (TestPasses s n (arbOf s u) → retestClaim s = s)
    ∧ (¬ TestPasses s n (arbOf s u) → ClaimWithdrawn n s (retestClaim s)) := by
  simp only [← admissionPasses_iff, retestClaim, hc]
  refine ⟨fun passes => if_pos passes, fun fails => ?_⟩
  rw [if_neg fails]
  exact withdrawClaim_claimWithdrawn (announcedStep_sending hc)

/-- With no claim announced a view change makes the very test of ADMISSION_TEST. -/
theorem exec_admissionTest_retestClaim (hp : s.power = .running) (hc : s.admission.claim = .unannounced) :
    exec .admissionTest s = .next (retestClaim s) := by
  simp only [exec_admissionTest hp, retestClaim, hc]

theorem tryClaim_none_pending (h : s.admission.pending = []) : tryClaim s = s := by
  unfold tryClaim
  split
  · simp_all
  · rfl

theorem retestClaim_put_off (hc : s.admission.claim = .unannounced)
    (off : s.admission.pending = [] ∨ s.admission.testAtTick = true ∨ withdrawnUnderAttempt s = true) :
    retestClaim s = s := by
  simp only [retestClaim, hc]
  split
  · rfl
  · rename_i due
    cases hpend : s.admission.pending with
    | nil => exact tryClaim_none_pending hpend
    | cons p rest => exact tryClaim_failed hpend (.inl (by simpa [hpend, due] using off))

/-! ## The two overcommit tests (R135, R137) -/

/-- The feeder overcommit test as a view change makes it: not while a settle runs (R135, R136). -/
def State.feederTested (s : State) : State := if s.admission.shedSettle = none then overcommitTest s else s

theorem viewChange_eq (s : State) : viewChange s = ductTest (retestClaim s).feederTested := rfl

theorem feederTested_sheds (hl : LoadsSound s) (hcl : ClaimSound s) (hp : s.power = .running)
    (sheds : s.admission.shedSettle = none ∧ MustShed s) : ShedStep s s.feederTested := by
  obtain ⟨settled, must⟩ := sheds
  rw [State.feederTested, if_pos settled, overcommitTest_outcome.1 must]
  exact shed_shedStep hl hcl hp must.2.1

theorem feederTested_stays (stays : ¬ (s.admission.shedSettle = none ∧ MustShed s)) : s.feederTested = s := by
  unfold State.feederTested
  split
  · rename_i settled
    exact overcommitTest_outcome.2 fun must => stays ⟨settled, must⟩
  · rfl

/-- Settles O54: the three parts of a view change, one after the other; a test in WAIT_ROOM by O55. -/
theorem viewChangeReachesAdmission : Obligations.ViewChangeReachesAdmission := by
  intro s hp hl hline hcl a u
  have loads : LoadsSound (retestClaim s) := hl.of_lists (by simp) (by simp) (by simp) (by simp)
  have power : (retestClaim s).power = .running := by simpa using hp
  refine ⟨retestClaim s, (retestClaim s).feederTested, fun n v k hc => retestClaim_holding hc,
    fun n v hc => retestClaim_sending hc, fun hc => ⟨retestClaim_put_off hc, fun p rest hpend due free => ?_⟩,
    feederTested_sheds loads hcl.retestClaim power, feederTested_stays, ductTest_ductTested _⟩
  have tested := exec_admissionTest_retestClaim hp hc
  obtain ⟨claims, stays⟩ := admissionTestClaims s p rest hp hline hc hpend
  refine ⟨fun fails => ?_, fun passes => ?_⟩
  · exact Host.Outcome.next.inj (tested.symm.trans (stays (.inr fails)))
  · obtain ⟨t, ended, made⟩ := claims ⟨due, free⟩ passes
    obtain rfl : retestClaim s = t := Host.Outcome.next.inj (tested.symm.trans ended)
    exact made

end Sys2Proof.Machine
end

section
/-! REQUEST_STEP taken: the tests it passes, and its place in the pending list (R120, R121, R154). -/

namespace Sys2Proof.Machine
variable {s : State} {r : Request}

/-! ## The pending list in step order -/

theorem insertRequest_perm (p : StepRequest) (l : List StepRequest) : (insertRequest p l).Perm (p :: l) := by
  induction l with
  | nil => exact .refl _
  | cons q rest ih =>
    unfold insertRequest
    split
    · exact .refl _
    · exact (ih.cons q).trans (.swap p q rest)

theorem mem_insertRequest {p q : StepRequest} {l : List StepRequest} : q ∈ insertRequest p l ↔ q = p ∨ q ∈ l :=
  (insertRequest_perm p l).mem_iff.trans List.mem_cons

/-- A request for a step that is not yet pending takes its place in step order. -/
theorem insertRequest_rising {p : StepRequest} {l : List StepRequest}
    (rising : l.Pairwise (fun p q => p.step < q.step)) (new : ∀ q ∈ l, q.step ≠ p.step) :
    (insertRequest p l).Pairwise (fun p q => p.step < q.step) := by
  induction l with
  | nil => simp [insertRequest]
  | cons q rest ih =>
    obtain ⟨above, tail⟩ := List.pairwise_cons.mp rising
    have other := new q List.mem_cons_self
    unfold insertRequest
    split
    · refine List.pairwise_cons.mpr ⟨fun x hx => ?_, rising⟩
      obtain rfl | hx := List.mem_cons.mp hx
      · omega
      · have later := above x hx
        omega
    · refine List.pairwise_cons.mpr ⟨fun x hx => ?_, ih tail fun x hx => new x (List.mem_cons_of_mem q hx)⟩
      obtain rfl | hx := mem_insertRequest.mp hx
      · omega
      · exact above x hx

/-! ## The request taken -/

theorem not_isPending_iff {n : Nat} : isPending s n = false ↔ ∀ q ∈ s.admission.pending, q.step ≠ n := by
  simp [isPending]

/-- The tests of R121 that a REQUEST_STEP passes. -/
theorem stepRefusal_eq_none_iff {n : Nat} : stepRefusal s n = none ↔
    (1 ≤ n ∧ n ≤ 6) ∧ (s.context.cycleState = .running ∨ s.context.cycleState = .resuming)
    ∧ s.permits.doorOpen = false ∧ heldLen s < n ∧ isPending s n = false
    ∧ (prerequisiteHeld s n = true ∨ isPending s (n - 1) = true) := by
  unfold stepRefusal
  split
  · rename_i bad
    simp only [Config.stepCount] at bad
    exact ⟨nofun, fun ⟨⟨low, high⟩, _⟩ => by omega⟩
  rename_i good
  split
  · rename_i idle
    exact ⟨nofun, fun ⟨_, runs, _⟩ => by simp [idle] at runs⟩
  rename_i runs
  split
  · rename_i opened
    exact ⟨nofun, fun ⟨_, _, closed, _⟩ => by simp [opened] at closed⟩
  rename_i closed
  split
  · rename_i again
    refine ⟨nofun, fun ⟨_, _, _, above, free, _⟩ => ?_⟩
    obtain held | pending := again
    · have below := (of_decide_eq_true held).2
      omega
    · simp [free] at pending
  rename_i new
  obtain ⟨unheld, free⟩ := not_or.mp new
  have above : 1 ≤ n → ¬ n ≤ heldLen s := fun one le => unheld (decide_eq_true ⟨one, le⟩)
  simp only [Config.stepCount] at good
  split
  · rename_i unchained
    refine ⟨nofun, fun ⟨_, _, _, _, _, chained⟩ => ?_⟩
    rw [Bool.not_eq_true', Bool.or_eq_false_iff] at unchained
    simp [unchained] at chained
  · rename_i chained
    refine ⟨fun _ => ⟨by omega, by tauto, by simpa using closed, ?_, by simpa using free,
      by rwa [Bool.not_eq_true, Bool.not_eq_false', Bool.or_eq_true] at chained⟩, fun _ => rfl⟩
    exact Nat.not_le.mp (above (by omega))

theorem requestStepOwner_taken (h : stepRefusal s r.param.toNat = none) :
    requestStepOwner r s = { leaveService s with admission := { s.admission with
      pending := insertRequest ⟨r.param.toNat, r.tag, 0, 0⟩ s.admission.pending } } := by
  simp only [requestStepOwner, h]
  rfl

/-- Settles O28: the request inserted in its step's place, which counts as outstanding there as it did in service. -/
theorem requestStepTaken : Obligations.RequestStepTaken := by
  intro s r rest h hl low high runs closed above free chained
  have passes : stepRefusal (s.serving r rest) r.param.toNat = none :=
    stepRefusal_eq_none_iff.mpr ⟨⟨low, high⟩, runs, closed, above, free, by
      rw [prerequisiteHeld, Bool.or_eq_true, decide_eq_true_eq, or_assoc]
      exact chained⟩
  have perm := insertRequest_perm ⟨r.param.toNat, r.tag, 0, 0⟩ s.admission.pending
  refine ⟨_, (exec_served h).trans (congrArg _ (requestStepOwner_taken passes)), perm,
    insertRequest_rising hl.1.pendingRising (not_isPending_iff.mp free), rfl, ?_, ?_,
    fun b hb => by cases b <;> simp_all [Block.Same, State.serving]⟩
  · simp [State.serving, leaveService, h.free]
  · have longer : _ = s.admission.pending.length + 1 := perm.length_eq
    simp only [outstanding, State.serving, leaveService, h.free, h.head, longer, List.length_cons, Option.isSome_none,
      Bool.false_eq_true, if_false]
    omega

end Sys2Proof.Machine
end

section
/-! The loads and the claim over every step: what each operation can do to the held steps, the pending list, the
claim and the permits, said once for the three invariants about them. -/

namespace Sys2Proof.Machine

variable {s t u : State}

/-! ## The Admission Unit at rest -/

/-- The output levels and the heat period stand, but that HEAT_PERMIT may go low, the counter may run on and the door
may close. -/
structure Permits.Rests (p q : Permits) : Prop where
  drum : q.drum = p.drum
  air : q.air = p.air
  heat : q.heat = true → p.heat = true
  duty : q.duty = p.duty
  period : q.period = none ↔ p.period = none
  blank : q.blank = p.blank
  door : q.doorOpen = true → p.doorOpen = true

theorem Permits.Rests.refl (p : Permits) : p.Rests p := ⟨rfl, rfl, id, rfl, Iff.rfl, rfl, id⟩

/-- No step is granted, released, requested or cancelled: a claim may go, the line may begin to permit claims, and a
cycle without loads may move. -/
structure AdmissionRests (s t : State) : Prop where
  held : t.admission.held = s.admission.held
  steps : t.admission.pending.map (·.step) = s.admission.pending.map (·.step)
  claim : announcedStep t = none ∨ announcedStep t = announcedStep s
  permits : s.permits.Rests t.permits
  mode : s.line.mode.claims = true → t.line.mode.claims = true
  running : s.context.cycleState = .running → t.context.cycleState = .running
  resuming : s.context.cycleState = .resuming → t.context.cycleState = .resuming
  power : t.power = s.power
  settings : t.settings = s.settings

/-- The Admission Unit's lists and claim, the permits, the power and the settings stand as they stood. -/
def SameLoads (s t : State) : Prop :=
  t.admission.held = s.admission.held ∧ t.admission.pending = s.admission.pending
  ∧ t.admission.claim = s.admission.claim ∧ t.permits = s.permits ∧ t.power = s.power ∧ t.settings = s.settings

/-- Neither the line mode nor the cycle state has moved. -/
def SamePlace (s t : State) : Prop :=
  t.line.mode = s.line.mode ∧ t.context.cycleState = s.context.cycleState

theorem announcedStep_congr (h : t.admission.claim = s.admission.claim) : announcedStep t = announcedStep s := by
  rw [announcedStep, h, announcedStep]

namespace AdmissionRests

theorem of_loads (same : SameLoads s t) (mode : s.line.mode.claims = true → t.line.mode.claims = true)
    (cycle : t.context.cycleState = s.context.cycleState
      ∨ (s.context.cycleState ≠ .running ∧ s.context.cycleState ≠ .resuming)) : AdmissionRests s t := by
  obtain ⟨held, pending, claim, permits, power, settings⟩ := same
  refine ⟨held, by rw [pending], .inr (announcedStep_congr claim), permits ▸ .refl _, mode, fun h => ?_, fun h => ?_,
    power, settings⟩
  · exact cycle.elim (·.trans h) fun idle => absurd h idle.1
  · exact cycle.elim (·.trans h) fun idle => absurd h idle.2

theorem of_same (same : SameLoads s t) (place : SamePlace s t) : AdmissionRests s t :=
  .of_loads same (fun h => place.1 ▸ h) (.inl place.2)

theorem withdrawClaim (s : State) : AdmissionRests s (withdrawClaim s) := by
  have free := withdrawClaim_claim s
  exact ⟨by simp, by simp, .inl (announcedStep_eq_none_iff.mpr free), by simp [Permits.Rests.refl], by simp, by simp,
    by simp, by simp, by simp⟩

theorem tellSent (f : QueuedFrame) (s : State) : AdmissionRests s (tellSent f s) := by
  have announced : announcedStep (Machine.tellSent f s) = announcedStep s := by
    unfold Machine.tellSent
    (repeat' split) <;> simp_all [announcedStep]
  exact ⟨by simp, by simp, .inr announced, by simp [Permits.Rests.refl], by simp, by simp, by simp, by simp, by simp⟩

/-- The pending requests grow older. -/
theorem waitingAge (n : Nat) (s : State) : AdmissionRests s { s with admission := { s.admission with
    pending := s.admission.pending.map (StepRequest.olderAt n) } } := by
  have steps : ∀ p : StepRequest, (p.olderAt n).step = p.step := fun p => by
    unfold StepRequest.olderAt
    split <;> rfl
  exact ⟨rfl, by simp [steps], .inr rfl, .refl _, id, id, id, rfl, rfl⟩

theorem tick (s : State) : AdmissionRests s (tick s) := by
  have claim : announcedStep (Machine.tick s) = announcedStep s := by
    cases hc : s.admission.claim <;> simp [announcedStep, Machine.tick, tickAdmission, Claim.tick, hc]
  have permits : s.permits.Rests (tickPermits s) := by
    refine ⟨rfl, rfl, id, rfl, ?_, rfl, id⟩
    simp [tickPermits, tickPeriod]
  have steps : (s.admission.pending.map StepRequest.tick).map (·.step) = s.admission.pending.map (·.step) := by
    simp [StepRequest.tick]
  exact ⟨rfl, steps, .inr claim, permits, id, id, id, by simp only [Machine.tick], by simp only [Machine.tick]⟩

theorem idle (s : State) : AdmissionRests s (idle s) := by
  obtain he | ⟨c, he⟩ | ⟨-, -, he⟩ := idle_cases s <;> rw [he]
  · exact .of_same ⟨rfl, rfl, rfl, rfl, rfl, rfl⟩ ⟨rfl, rfl⟩
  · exact .of_same ⟨rfl, rfl, rfl, rfl, rfl, rfl⟩ ⟨rfl, rfl⟩
  · exact .tick s

end AdmissionRests

/-! ## A part without loads -/

/-- Nothing is held, pending or announced. -/
structure Unloaded (s : State) : Prop where
  held : s.admission.held = []
  pending : s.admission.pending = []
  claim : announcedStep s = none

theorem Unloaded.of_same (h : Unloaded s) (ha : t.admission.held = s.admission.held
    ∧ t.admission.pending = s.admission.pending ∧ t.admission.claim = s.admission.claim) : Unloaded t := by
  obtain ⟨held, pending, claim⟩ := ha
  exact ⟨held.trans h.held, pending.trans h.pending, (announcedStep_congr claim).trans h.claim⟩

theorem releaseAllForHost_unloaded (s : State) : Unloaded (releaseAllForHost s) := by
  have admission := releaseAllForHost_admission s
  exact ⟨by rw [admission], by rw [admission], announcedStep_eq_none_iff.mpr (by rw [admission])⟩

theorem openDoor_unloaded (s : State) :
    Unloaded (openDoor s) ∧ (openDoor s).permits.lowered = (openDoor s).permits := by
  have admission := doorReleased_admission s
  have permits := doorReleased_permits s
  have free := withdrawClaim_claim s.doorReleased
  rw [openDoor_eq]
  refine ⟨⟨by simp [admission], by simp [admission], announcedStep_eq_none_iff.mpr (by simpa using free)⟩, ?_⟩
  simp [permits, Permits.lowered]

theorem declareLoss_unloaded (s : State) :
    Unloaded (declareLoss s) ∧ (declareLoss s).permits.lowered = (declareLoss s).permits := by
  have admission : (declareLoss s).admission = s.admission.afterLoss := by
    simp [declareLoss_eq, State.lossHeld, State.lossTold, lossRecorded_admission]
  have permits : (declareLoss s).permits = s.permits.lowered := by
    simp only [declareLoss_eq, completeService_frame, State.lossHeld, enterHolding_frame, State.lossTold, post_frame,
      vacateLine_frame, State.lossRecorded, lossRecord_frame, lossAdmission_frame]
    rfl
  exact ⟨⟨by rw [admission]; rfl, by rw [admission]; rfl, announcedStep_eq_none_iff.mpr (by rw [admission]; rfl)⟩,
    by rw [permits]; rfl⟩

end Sys2Proof.Machine
end

section
/-! Invariants of the loads: every command but those that open a join window or make a grant, by the operations that
move the loads. -/

namespace Sys2Proof.Machine

/-! ## The modes that a change of the line leaves -/

theorem modeByView_claims (s : State) : (modeByView s).claims = true := by
  unfold modeByView
  (repeat' split) <;> rfl

/-- A property of the held steps, the pending list, the claim and the permits that the operations moving them keep. -/
structure AdmissionInvariant (P : State → Prop) : Prop where
  rests : ∀ {s t}, P s → AdmissionRests s t → P t
  unloads : ∀ {s}, Unloaded s → s.permits.lowered = s.permits → P s
  frees : ∀ {s t u}, P s → s.power = .running →
    (u.admission = s.admission ∧ u.permits = s.permits ∧ u.line = s.line ∧ u.settings = s.settings) → Unloaded t →
    t.permits = (releaseAllForHost u).permits → P t
  tries : ∀ {s}, P s → P (tryClaim s)
  sheds : ∀ {s}, P s → s.power = .running → 3 ≤ heldLen s → P (shed s)
  caps : ∀ {s}, P s → s.power = .running → P (capHeldSteps s)
  requests : ∀ {s} r, P s → s.power = .running → P (requestStepOwner r s)
  drops : ∀ {s} r, P s → s.power = .running → P (dropStepOwner r s)
  guards : ∀ {s}, P s → s.power = .running → P (guardTest s)
  periods : ∀ {s}, P s → s.power = .running → P (newPeriod (releaseMarked s))
  resets : ∀ {s}, P s → P (holdReset s)
  scans : ∀ {s}, P s → s.power = .scanning → P (endScan s)

/-- The commands that can open a join window, and the end of a hold. -/
def joinsOrGrants : Instr → Bool
  | .configure | .startupReadingEnd _ | .returnConfirmation | .warmReturn | .holdExpiry => true
  | _ => false

namespace AdmissionInvariant

variable {P : State → Prop} {s t : State}

theorem same (inv : AdmissionInvariant P) (h : P s) (loads : SameLoads s t) (place : SamePlace s t) : P t :=
  inv.rests h (.of_same loads place)

theorem withdrawClaim (inv : AdmissionInvariant P) (h : P s) : P (withdrawClaim s) :=
  inv.rests h (.withdrawClaim s)

/-! ## The line's mode and the view (R103, R108 to R112, R135, R138) -/

theorem soloEntry (inv : AdmissionInvariant P) (h : P s) (hp : s.power = .running) : P (soloEntry s) := by
  have capped := inv.caps h hp
  unfold Machine.soloEntry
  dsimp only
  (repeat' split)
  case h_1.isFalse => exact inv.withdrawClaim capped
  all_goals exact capped

theorem changeMode (inv : AdmissionInvariant P) {mode : LineMode} (cause : LineCause) (h : P s)
    (hp : s.power = .running) (claims : mode.claims = true) : P (changeMode mode cause s) := by
  have moved : P (s.inMode mode cause) :=
    inv.rests h (.of_loads ⟨rfl, rfl, rfl, rfl, rfl, rfl⟩ (fun _ => claims) (.inl rfl))
  unfold Machine.changeMode
  rw [post_line]
  dsimp only
  split
  · exact inv.soloEntry moved hp
  · exact moved

theorem overcommitTest (inv : AdmissionInvariant P) (h : P s) (hp : s.power = .running) : P (overcommitTest s) := by
  obtain he | ⟨-, three, -, he⟩ := overcommitTest_cases s <;> rw [he]
  · exact h
  · exact inv.sheds h hp three

theorem viewChange (inv : AdmissionInvariant P) (h : P s) (hp : s.power = .running) : P (viewChange s) := by
  have retested : P (retestClaim s) := by
    obtain he | he | he := retestClaim_cases s <;> rw [he]
    exacts [h, inv.withdrawClaim h, inv.tries h]
  have tested : P (retestClaim s).feederTested := by
    unfold State.feederTested
    split
    · exact inv.overcommitTest retested (by simpa using hp)
    · exact retested
  rw [viewChange_eq]
  exact inv.same tested (by simp [SameLoads]) (by simp [SamePlace])

theorem peerMotorStart (inv : AdmissionInvariant P) (h : P s) : P (peerMotorStart s) := by
  have restarted : P { s with admission := { s.admission with spacing := some 0 } } :=
    inv.same h ⟨rfl, rfl, rfl, rfl, rfl, rfl⟩ ⟨rfl, rfl⟩
  unfold Machine.peerMotorStart
  dsimp only
  (repeat' split)
  case h_1.isTrue => exact inv.withdrawClaim restarted
  all_goals exact restarted

theorem hearPeer (inv : AdmissionInvariant P) (f : Frame) (h : P s) (hp : s.power = .running) : P (hearPeer f s) := by
  have known : P (s.peerKnown f) ∧ (s.peerKnown f).power = .running := by
    unfold State.peerKnown
    dsimp only
    split
    · exact ⟨inv.rests h (.of_loads ⟨rfl, rfl, rfl, rfl, rfl, rfl⟩ (fun _ => rfl) (.inl rfl)), hp⟩
    · exact ⟨inv.same h ⟨rfl, rfl, rfl, rfl, rfl, rfl⟩ ⟨rfl, rfl⟩, hp⟩
  have changed := inv.viewChange known.1 known.2
  rw [hearPeer_eq]
  split
  · exact inv.peerMotorStart changed
  · exact changed

theorem endJoinEarly (inv : AdmissionInvariant P) (h : P s) : P (endJoinEarly s) :=
  inv.same h (by simp [SameLoads]) (by simp [SamePlace])

theorem hearDuplicate (inv : AdmissionInvariant P) (h : P s) (hp : s.power = .running) : P (hearDuplicate s) := by
  unfold Machine.hearDuplicate
  split
  · exact h
  · have marked : P { s with line := { s.line with duplicateMark := true } } :=
      inv.same h ⟨rfl, rfl, rfl, rfl, rfl, rfl⟩ ⟨rfl, rfl⟩
    exact inv.changeMode _ (inv.endJoinEarly marked) (by simpa using hp) rfl

theorem endFrame (inv : AdmissionInvariant P) (g : Gathered) (h : P s) (hp : s.power = .running) :
    P (endFrame g s) := by
  obtain he | ⟨f, -, -, -, he⟩ := endFrame_cases s g <;> rw [he]
  · exact h
  · unfold judgeFrame
    split
    · exact inv.hearDuplicate h hp
    · exact inv.hearPeer f h hp

theorem receive (inv : AdmissionInvariant P) (samples : List Bool) (h : P s) (hp : s.power = .running) :
    P (receive samples s) := by
  obtain he | ⟨-, -, he⟩ := receive_cases s samples <;> rw [he]
  · exact h
  · have read : P { s with line := { s.line with receiver := (s.line.receiver.run samples).1 } } :=
      inv.same h ⟨rfl, rfl, rfl, rfl, rfl, rfl⟩ ⟨rfl, rfl⟩
    generalize hu : { s with line := { s.line with receiver := (s.line.receiver.run samples).1 } } = u at read
    have power : u.power = .running := by rw [← hu]; exact hp
    clear hu he
    induction (s.line.receiver.run samples).2 generalizing u with
    | nil => exact read
    | cons g rest ih => exact ih _ (inv.endFrame g read power) (by simpa using power)

theorem removeEntry (inv : AdmissionInvariant P) (n : Nat) (h : P s) (hp : s.power = .running) :
    P (removeEntry n s) := by
  have left : P (s.without n) :=
    inv.viewChange (inv.same h ⟨rfl, rfl, rfl, rfl, rfl, rfl⟩ ⟨rfl, rfl⟩) hp
  have power : (s.without n).power = .running := by simpa [State.without] using hp
  rw [removeEntry_eq]
  split
  · unfold lastEntryRemoved
    split
    · exact inv.changeMode _ left power (by split <;> rfl)
    all_goals exact left
  · exact left

/-! ## Failed attempts and frames sent (R94 to R98, R100) -/

theorem countAsSent (inv : AdmissionInvariant P) (f : QueuedFrame) (h : P s) : P (countAsSent f s) :=
  inv.rests (inv.same h (t := Machine.restartPresence (Machine.dropHead s)) (by simp [SameLoads]) (by simp [SamePlace]))
    (.tellSent f _)

theorem failHead (inv : AdmissionInvariant P) (f : QueuedFrame) (h : P s) (hp : s.power = .running) :
    P (failHead f s) := by
  obtain he | ⟨-, he⟩ | ⟨-, he⟩ | ⟨-, he⟩ := failHead_cases s f <;> rw [he]
  · exact inv.same h ⟨rfl, rfl, rfl, rfl, rfl, rfl⟩ ⟨rfl, rfl⟩
  · exact inv.same h ⟨rfl, rfl, rfl, rfl, rfl, rfl⟩ ⟨rfl, rfl⟩
  · exact inv.countAsSent f h
  · have eighth : P { s with line := { s.line with failures := 8 } } :=
      inv.same h ⟨rfl, rfl, rfl, rfl, rfl, rfl⟩ ⟨rfl, rfl⟩
    exact inv.changeMode _ (inv.endJoinEarly eighth) (by simpa using hp) rfl

theorem failAttempt (inv : AdmissionInvariant P) (a : Attempt) (bit : Nat) (h : P s) (hp : s.power = .running) :
    P (failAttempt a bit s) := by
  have ended : P (endAttempt (misreadLevels a.bytes bit) s) :=
    inv.same h ⟨rfl, rfl, rfl, rfl, rfl, rfl⟩ ⟨rfl, rfl⟩
  unfold Machine.failAttempt
  dsimp only
  (repeat' split)
  · exact inv.failHead _ ended hp
  · exact inv.same (inv.countAsSent a.frame ended) (by simp [SameLoads]) (by simp [SamePlace])
  · exact inv.same (inv.failHead a.frame ended hp) (by simp [SameLoads, dropWithdrawnClaim])
      (by simp [SamePlace, dropWithdrawnClaim])

theorem clearFault (inv : AdmissionInvariant P) (h : P s) (hp : s.power = .running) : P (clearFault s) := by
  unfold Machine.clearFault
  split
  · exact inv.changeMode _ h hp (modeByView_claims s)
  all_goals exact h

theorem finishAttempt (inv : AdmissionInvariant P) (a : Attempt) (h : P s) (hp : s.power = .running) :
    P (finishAttempt a s) := by
  have read : P (restartPresence (dropHead (ownFrameRead a s))) :=
    inv.same h (by simp [SameLoads]) (by simp [SamePlace])
  have sent := inv.rests (inv.clearFault read (by simpa using hp)) (.tellSent a.frame _)
  unfold Machine.finishAttempt
  dsimp only
  split
  · exact sent
  · exact inv.same sent (by simp [SameLoads]) (by simp [SamePlace])

end AdmissionInvariant

end Sys2Proof.Machine
end

section
/-! The requests, the timers, the supply and the starts as they bear on the loads, and every step. -/

namespace Sys2Proof.Machine

namespace AdmissionInvariant

variable {P : State → Prop} {s t : State}

/-! ## The requests (R4 to R7, R9, R121, R130) -/

/-- A cycle in which nothing runs may move. -/
theorem cycles (inv : AdmissionInvariant P) (h : P s) (loads : SameLoads s t) (mode : t.line.mode = s.line.mode)
    (idle : s.context.cycleState ≠ .running ∧ s.context.cycleState ≠ .resuming) : P t :=
  inv.rests h (.of_loads loads (fun claims => mode ▸ claims) (.inr idle))

theorem refused (inv : AdmissionInvariant P) (x : Result) (h : P s) : P (completeService x 0 s) :=
  inv.same h (by simp [SameLoads]) (by simp [SamePlace])

theorem openCycleOwner (inv : AdmissionInvariant P) (r : Request) (h : P s) : P (openCycleOwner r s) := by
  unfold Machine.openCycleOwner
  dsimp only
  split
  · exact inv.refused _ h
  · rename_i hc
    have idle := not_not.mp hc
    (repeat' split)
    case h_2.isFalse => exact inv.cycles h (by simp [SameLoads]) (by simp) (by simp [idle])
    all_goals exact inv.refused _ h

theorem continueCycleOwner (inv : AdmissionInvariant P) (r : Request) (h : P s) : P (continueCycleOwner r s) := by
  unfold Machine.continueCycleOwner
  split
  · rename_i hc
    exact inv.cycles h (by simp [SameLoads]) (by simp) (by simp [hc])
  · exact inv.refused _ h

theorem hostStopOwner (inv : AdmissionInvariant P) (r : Request) (h : P s) (hp : s.power = .running) :
    P (hostStopOwner r s) := by
  have unloaded := releaseAllForHost_unloaded { s with context := stoppedContext r.param s.context }
  unfold Machine.hostStopOwner
  dsimp only
  split
  · exact inv.frees (u := { s with context := stoppedContext r.param s.context }) h hp ⟨rfl, rfl, rfl, rfl⟩
      (unloaded.of_same (by simp)) (by simp)
  · exact inv.refused _ h

theorem closeCycleOwner (inv : AdmissionInvariant P) (r : Request) (h : P s) (hp : s.power = .running) :
    P (closeCycleOwner r s) := by
  unfold Machine.closeCycleOwner
  split
  case h_4 | h_5 => exact inv.refused _ h
  all_goals exact inv.frees h hp ⟨rfl, rfl, rfl, rfl⟩ ((releaseAllForHost_unloaded s).of_same (by simp)) (by simp)

theorem resumeAnswerOwner (inv : AdmissionInvariant P) (r : Request) (h : P s) (hp : s.power = .running) :
    P (resumeAnswerOwner r s) := by
  have idle {plan : Plan} (hplan : awaitedPlan s = some plan) :
      s.context.cycleState ≠ .running ∧ s.context.cycleState ≠ .resuming := by
    obtain ⟨hc, -⟩ := awaitedPlan_some hplan
    simp [hc]
  unfold Machine.resumeAnswerOwner
  split
  · split
    · exact inv.refused _ h
    · rename_i hplan
      split
      · exact inv.refused _ h
      · refine inv.guards (inv.cycles h ?_ ?_ (idle hplan)) ?_
        · simp [SameLoads]
        · simp
        · simpa using hp
  · split
    · split
      · exact inv.refused _ h
      · rename_i hplan
        exact inv.cycles h (by simp [SameLoads]) (by simp) (idle hplan)
    · exact inv.refused _ h

theorem stillSecond (inv : AdmissionInvariant P) (h : P s) (hp : s.power = .running) : P (stillSecond s) := by
  unfold Machine.stillSecond
  split
  · exact inv.guards (inv.same h ⟨rfl, rfl, rfl, rfl, rfl, rfl⟩ ⟨rfl, rfl⟩) hp
  · exact h

theorem dropout (inv : AdmissionInvariant P) (h : P s) : P (dropout s) := by
  unfold Machine.dropout
  (repeat' split)
  case h_1 | h_2 =>
    obtain ⟨unloaded, low⟩ := declareLoss_unloaded s
    exact inv.unloads unloaded low
  case h_3 => exact inv.same h (by simp [SameLoads]) (by simp [SamePlace])
  all_goals exact h

theorem openDoor (inv : AdmissionInvariant P) : P (openDoor s) := by
  obtain ⟨unloaded, low⟩ := openDoor_unloaded s
  exact inv.unloads unloaded low

/-- After a start nothing is held, pending or announced. -/
theorem of_started (inv : AdmissionInvariant P) (ha : s.admission = Admission.initial)
    (hp : s.permits.lowered = s.permits) : P s :=
  inv.unloads ⟨by rw [ha]; rfl, by rw [ha]; rfl, announcedStep_eq_none_iff.mpr (by rw [ha]; rfl)⟩ hp

/-! ## The commands -/

/-- An effect that a command makes under a condition of its own. -/
theorem ite {c : Prop} [Decidable c] {a b : State} (ha : c → P a) (hb : P b) : P (if c then a else b) := by
  split
  · exact ha ‹_›
  · exact hb

theorem serving (inv : AdmissionInvariant P) (isKind : Byte → Bool) {owner : Request → State → State} (h : P s)
    (own : ∀ r u, P u → u.power = .running → P (owner r u))
    (he : whenRunning (takeIntoService isKind owner) s = .next t) : P t :=
  whenRunning_keeps h (fun hp => takeIntoService_keeps _ h
    (fun _ _ hu => inv.same hu ⟨rfl, rfl, rfl, rfl, rfl, rfl⟩ ⟨rfl, rfl⟩)
    fun r u hu hu' => own r u hu (hu'.trans hp)) he

theorem transacting (inv : AdmissionInvariant P) {k : TransactionKind} {mosi : List Byte}
    {body : List Byte → State → State × List Byte} (h : P s)
    (loads : SameLoads s (body mosi.tail s).1) (place : SamePlace s (body mosi.tail s).1)
    (he : (.next (transaction k mosi body s) : Host.Outcome State Fault Refusal) = .next t) : P t :=
  transaction_keeps h (fun _ _ hu => inv.same hu ⟨rfl, rfl, rfl, rfl, rfl, rfl⟩ ⟨rfl, rfl⟩)
    (fun _ => inv.same h loads place) he

theorem exec_ofLine (inv : AdmissionInvariant P) {c : Instr} (hc : ofLine c = true) (h : P s)
    (he : exec c s = .next t) : P t := by
  cases c
  case attemptStart =>
    simp only [exec, execAttemptStart] at he
    refine whenRunning_keeps h (fun _ => inv.same h ?_ ?_) he <;> (repeat' split) <;> simp [SameLoads, SamePlace]
  case arbitrationLost bit =>
    simp only [exec, execArbitrationLost] at he
    refine whenRunning_keeps h (fun _ => inv.same h ?_ ?_) he <;> (repeat' split) <;> simp [SameLoads, SamePlace]
  case bitError bit =>
    simp only [exec, execBitError] at he
    refine whenRunning_keeps h (fun hp => ?_) he
    split
    · exact ite (fun _ => inv.failAttempt _ bit h hp) h
    · exact h
  case lineHeld =>
    refine whenRunning_keeps h (fun hp => ?_) he
    obtain same | ⟨f, -, -, failed⟩ := lineHeld_cases s
    · rwa [same]
    · rw [failed]
      exact inv.failHead f (inv.same h ⟨rfl, rfl, rfl, rfl, rfl, rfl⟩ ⟨rfl, rfl⟩) hp
  case frameSent =>
    simp only [exec, execFrameSent] at he
    refine whenRunning_keeps h (fun hp => ?_) he
    split
    · exact inv.finishAttempt _ h hp
    · exact h
  case frameReceived => exact whenRunning_keeps h (inv.receive _ h) he
  case presenceDue =>
    exact whenRunning_keeps h (fun _ => ite (fun _ => inv.same h (by simp [SameLoads]) (by simp [SamePlace])) h) he
  case joinSlot =>
    exact whenRunning_keeps h (fun _ => ite (fun _ => inv.same h (by simp [SameLoads]) (by simp [SamePlace])) h) he
  case joinWindowEnd =>
    refine whenRunning_keeps h (fun hp => ite (fun _ => ?_) h) he
    refine inv.changeMode _ (inv.same h ⟨rfl, rfl, rfl, rfl, rfl, rfl⟩ ⟨rfl, rfl⟩) hp ?_
    split
    · rfl
    · exact modeByView_claims s
  case peerSilent n =>
    refine whenRunning_keeps h (fun hp => ite (fun _ => ?_) h) he
    exact inv.viewChange (inv.same h ⟨rfl, rfl, rfl, rfl, rfl, rfl⟩ ⟨rfl, rfl⟩) hp
  case peerRemoved n => exact whenRunning_keeps h (fun hp => ite (fun _ => inv.removeEntry n h hp) h) he
  all_goals cases hc

theorem exec_keeps (inv : AdmissionInvariant P) {c : Instr} (own : joinsOrGrants c = false) (h : P s)
    (he : exec c s = .next t) : P t := by
  cases hc : ofLine c
  case true => exact inv.exec_ofLine hc h he
  cases c
  case sendRequest =>
    refine inv.transacting h ?_ ?_ he <;> unfold sendRequestBody <;> (repeat' split) <;> simp [SameLoads, SamePlace]
  case takeEvent =>
    refine inv.transacting h ?_ ?_ he <;> unfold takeEventBody <;> split <;> simp [SameLoads, SamePlace]
  case writeProgress =>
    refine inv.transacting h ?_ ?_ he <;> unfold writeProgressBody <;> split <;> simp [SameLoads, SamePlace]
  case readStatus =>
    refine inv.transacting h ?_ ?_ he <;> unfold readStatusBody <;> split <;> simp [SameLoads, SamePlace]
  case requestStep => exact inv.serving _ h (fun r _ => inv.requests r) he
  case dropStep => exact inv.serving _ h (fun r _ => inv.drops r) he
  case openCycle => exact inv.serving _ h (fun r _ hu _ => inv.openCycleOwner r hu) he
  case continueCycle => exact inv.serving _ h (fun r _ hu _ => inv.continueCycleOwner r hu) he
  case hostStop => exact inv.serving _ h (fun r _ => inv.hostStopOwner r) he
  case closeCycle => exact inv.serving _ h (fun r _ => inv.closeCycleOwner r) he
  case resumeAnswer => exact inv.serving _ h (fun r _ => inv.resumeAnswerOwner r) he
  case unknownKindServed => exact inv.serving _ h (fun _ _ hu _ => inv.refused _ hu) he
  case stillTimerSecond => exact whenRunning_keeps h (inv.stillSecond h) he
  case dropout => exact whenRunning_keeps h (fun _ => inv.dropout h) he
  case admissionTest =>
    simp only [exec, execAdmissionTest] at he
    refine whenRunning_keeps h (fun _ => ?_) he
    exact ite (fun _ => h) (inv.tries h)
  case shedSettleExpiry =>
    refine whenRunning_keeps h (fun hp => ite (fun _ => ?_) h) he
    exact inv.overcommitTest (inv.same h ⟨rfl, rfl, rfl, rfl, rfl, rfl⟩ ⟨rfl, rfl⟩) hp
  case waitingAgeSecond n =>
    simp only [exec, execWaitingAgeSecond] at he
    exact whenRunning_keeps h (fun _ => inv.rests h (.waitingAge n s)) he
  case heatPeriodStart => exact whenRunning_keeps h (fun hp => ite (fun _ => inv.periods h hp) h) he
  case onTimeEnd =>
    refine whenRunning_keeps h (fun _ => ite (fun _ => ?_) h) he
    exact inv.rests h ⟨rfl, rfl, .inr rfl, ⟨rfl, rfl, nofun, rfl, Iff.rfl, rfl, id⟩, id, id, id, rfl, rfl⟩
  case doorOpening => exact whenRunning_keeps h (fun _ => ite (fun _ => inv.openDoor) h) he
  case doorClosing =>
    refine whenRunning_keeps h (fun _ => ite (fun _ => ?_) h) he
    exact inv.rests h ⟨rfl, rfl, .inr rfl, ⟨rfl, rfl, id, rfl, Iff.rfl, rfl, nofun⟩, id, id, id, rfl, rfl⟩
  case mainsZcPulse =>
    refine Host.Outcome.next.inj he ▸ ite (fun _ => inv.same h ?_ ?_) h <;> simp [SameLoads, SamePlace]
  case vholdReading x =>
    refine Host.Outcome.next.inj he ▸ inv.same h ?_ ?_ <;> simp [SameLoads, SamePlace]
  case writeComplete =>
    refine Host.Outcome.next.inj he ▸ inv.same h ?_ ?_ <;> (repeat' split) <;> simp [SameLoads, SamePlace]
  case coldStart => exact Host.Outcome.next.inj he ▸ inv.of_started rfl rfl
  case coreSupplyFail => exact Host.Outcome.next.inj he ▸ ite (fun _ => h) (inv.of_started rfl rfl)
  case resetN => exact Host.Outcome.next.inj he ▸ ite (fun _ => inv.resets h) h
  case pinStart => exact Host.Outcome.next.inj he ▸ ite (fun _ => inv.of_started rfl rfl) h
  case recoveryScan => exact Host.Outcome.next.inj he ▸ ite (inv.scans h) h
  case configure | startupReadingEnd | returnConfirmation | warmReturn | holdExpiry => cases own
  case attemptStart | arbitrationLost | bitError | lineHeld | frameSent | frameReceived | presenceDue | joinSlot
    | joinWindowEnd | peerSilent | peerRemoved =>
    cases hc
  all_goals
    simp only [exec, execJournalInterval, execFreshnessExpiry, execLossTimerSecond, execChargingConversionStart,
      execChargingConversionEnd, execRefreshStart, execRefreshEnd, execSpacingElapsed, execRampElapsed] at he
    refine whenRunning_keeps h (fun _ => inv.same h ?_ ?_) he <;> (repeat' split) <;> simp [SameLoads, SamePlace]

/-- Every step keeps such a property where the commands that open a join window and the end of a hold do. -/
theorem step_keeps (inv : AdmissionInvariant P) (h : P s)
    (own : ∀ c rest, joinsOrGrants c = true → P { s with pending := rest } →
      exec c { s with pending := rest } = .next t → P t) (he : step s = .next t) : P t := by
  unfold step at he
  split at he
  · rename_i c rest _
    have front : P { s with pending := rest } := inv.same h ⟨rfl, rfl, rfl, rfl, rfl, rfl⟩ ⟨rfl, rfl⟩
    cases hc : joinsOrGrants c
    case true => exact own c rest hc front he
    case false => exact inv.exec_keeps hc front he
  · exact Host.Outcome.next.inj he ▸ inv.rests h (.idle s)

end AdmissionInvariant

end Sys2Proof.Machine
end

section
/-! The held steps, the pending list, the permits and the door over every step (R119, R121, R133, R142, R143, R146,
R149, R150). -/

namespace Sys2Proof.Machine

variable {s t : State}

/-! ## Pending requests that leave, and one that joins (R121, R122) -/

theorem splitChain_sublist (heldBelow : Nat → Bool) (l : List StepRequest) (kept : List Nat) :
    (splitChain heldBelow l kept).1.Sublist l := by
  induction l generalizing kept with
  | nil => exact .slnil
  | cons p rest ih =>
    unfold splitChain
    split
    · exact (ih _).cons_cons p
    · exact (ih _).cons p

theorem settleChain_pending (s : State) :
    (settleChain s).admission.pending = (splitChain (prerequisiteHeld s) s.admission.pending []).1 := by
  rw [settleChain_eq]
  simp

/-- Fewer steps are held and fewer requests pending. -/
theorem StepsSound.of_fewer (h : StepsSound s) (n : Nat) (held : t.admission.held = s.admission.held.take n)
    (pending : t.admission.pending.Sublist s.admission.pending) : StepsSound t := by
  have fewer : heldLen t ≤ heldLen s := by
    rw [heldLen, held]
    exact List.length_take_le' n s.admission.held
  refine ⟨fewer.trans h.heldSix, fun x hx => ?_, ?_, h.pendingRising.sublist pending, fun p hp => ?_⟩
  · rw [held, List.take_take, Nat.min_comm, ← List.take_take] at hx
    exact h.marksOnHeat x (List.mem_of_mem_take hx)
  · rw [held]
    exact h.marksUpward.sublist (List.take_sublist n _)
  · obtain ⟨above, six⟩ := h.pendingAbove p (pending.subset hp)
    exact ⟨fewer.trans_lt above, six⟩

/-- Requests leave the pending list. -/
theorem LoadsSound.of_pending (h : LoadsSound s) (held : t.admission.held = s.admission.held)
    (pending : t.admission.pending.Sublist s.admission.pending) (permits : t.permits = s.permits)
    (power : t.power = s.power) : LoadsSound t := by
  obtain ⟨hs, hp⟩ := h
  have length : heldLen t = heldLen s := heldLen_congr held
  have heat : heatCount t = heatCount s := heatCount_congr held
  refine ⟨hs.of_fewer (heldLen s) (held.trans (List.take_length).symm) pending, ?_, ?_, ?_, ?_, ?_, ?_, ?_, ?_⟩ <;>
    simp only [held, permits, power, length, heat]
  case refine_8 =>
    intro opened
    obtain ⟨none_held, none_pending⟩ := hp.door opened
    rw [none_pending] at pending
    exact ⟨none_held, List.sublist_nil.mp pending⟩
  exacts [hp.follow, hp.resetLow, hp.interlock, hp.dutyHeld, hp.dutyStarts, hp.counter, hp.blankDuty]

theorem LoadsSound.settleChain (h : LoadsSound s) : LoadsSound (settleChain s) :=
  h.of_pending (by simp) (settleChain_pending s ▸ splitChain_sublist _ _ _) (by simp) (by simp)

theorem LoadsSound.cancelStep (n : Nat) (h : LoadsSound s) : LoadsSound (cancelStep n s) := by
  refine h.of_pending (by simp) ?_ (by simp) (by simp)
  unfold Machine.cancelStep
  split
  · exact .refl _
  · exact List.filter_sublist

/-- A request above the held steps joins the pending list while the door is closed. -/
theorem LoadsSound.insert {p : StepRequest} (h : LoadsSound s) (held : t.admission.held = s.admission.held)
    (pending : t.admission.pending = insertRequest p s.admission.pending) (permits : t.permits = s.permits)
    (power : t.power = s.power) (above : heldLen s < p.step ∧ p.step ≤ 6)
    (new : isPending s p.step = false) (closed : s.permits.doorOpen = false) : LoadsSound t := by
  obtain ⟨hs, hp⟩ := h
  have length : heldLen t = heldLen s := heldLen_congr held
  have heat : heatCount t = heatCount s := heatCount_congr held
  constructor
  · refine ⟨length ▸ hs.heldSix, ?_, ?_, ?_, ?_⟩ <;> simp only [held, pending, length]
    · exact hs.marksOnHeat
    · exact hs.marksUpward
    · exact insertRequest_rising hs.pendingRising (not_isPending_iff.mp new)
    · intro q hq
      obtain rfl | hq := mem_insertRequest.mp hq
      · exact above
      · exact hs.pendingAbove q hq
  · refine ⟨?_, ?_, ?_, ?_, ?_, ?_, ?_, ?_⟩ <;> simp only [held, permits, power, length, heat]
    case refine_8 => exact fun opened => by simp [closed] at opened
    exacts [hp.follow, hp.resetLow, hp.interlock, hp.dutyHeld, hp.dutyStarts, hp.counter, hp.blankDuty]

/-! ## Steps released, put back and marked (R132 to R135, R146) -/

theorem closed_of_held (h : PermitsSound s) (some_held : 1 ≤ heldLen s) : s.permits.doorOpen = false := by
  by_contra opened
  obtain ⟨none_held, -⟩ := h.door (by simpa using opened)
  simp [heldLen, none_held] at some_held

theorem PermitsSound.releaseAtOnce {low : Nat} (h : PermitsSound s) (hp : s.power = .running) (one : 1 ≤ low) :
    PermitsSound (releaseAtOnce low s) := by
  obtain ⟨-, he⟩ | ⟨many, -⟩ := releaseAtOnce_cases s low
  · rwa [he]
  have held : (Machine.releaseAtOnce low s).admission.held = s.admission.held.take (low - 1) := by
    rw [releaseAtOnce_admission]
  have length : heldLen (Machine.releaseAtOnce low s) = low - 1 := by rw [heldLen, held, length_take_held many]
  have heat : heatCount (Machine.releaseAtOnce low s) = low - 1 - 2 := by rw [heatCount, length]
  have power : (Machine.releaseAtOnce low s).power = .running := by simpa using hp
  have closed := closed_of_held h (one.trans many)
  have permits := (releaseAtOnce_permits many).trans (takeAway_permits (length_take_held many))
  have starts : 1 ≤ heatCount s → s.permits.period ≠ none := fun some_heat idle => by
    have duty := h.counter.mp idle
    have least := h.dutyStarts some_heat
    omega
  obtain fewer | same := Nat.lt_or_ge (low - 1 - 2) (heatCount s)
  · rw [if_pos fewer] at permits
    have runs := starts (by omega)
    refine ⟨?_, ?_, ?_, ?_, ?_, ?_, ?_, ?_⟩ <;> simp only [permits, power, length, heat]
    · simp
    · exact nofun
    · exact nofun
    · exact Nat.le_refl _
    · exact id
    · by_cases last : low - 1 - 2 = 0 <;> simp [last, runs]
    · exact fun blank => of_decide_eq_true blank
    · exact fun opened => by simp [closed] at opened
  · have none_left : low - 1 - 2 = 0 := by unfold heatCount at same; omega
    have none_heat : heatCount s = 0 := by unfold heatCount at same ⊢; omega
    obtain ⟨output, duty, period, blank⟩ := h.noHeat none_heat
    rw [if_neg (Nat.not_lt.mpr same)] at permits
    refine ⟨?_, ?_, ?_, ?_, ?_, ?_, ?_, ?_⟩ <;>
      simp [permits, hp, length, heat, output, duty, period, blank, closed, none_left]

theorem LoadsSound.releaseAtOnce {low : Nat} (h : LoadsSound s) (hp : s.power = .running) (one : 1 ≤ low) :
    LoadsSound (releaseAtOnce low s) :=
  ⟨h.1.of_fewer (low - 1) (by rw [releaseAtOnce_admission]) (by simp), h.2.releaseAtOnce hp one⟩

theorem LoadsSound.capHeldSteps (h : LoadsSound s) (hp : s.power = .running) : LoadsSound (capHeldSteps s) := by
  unfold Machine.capHeldSteps
  dsimp only
  split
  · have released := h.releaseAtOnce (low := 3 + (cfg s).soloCap) hp (by omega)
    exact LoadsSound.settleChain (released.of_lists (by simp) (by simp) (by simp) (by simp))
  · exact h

theorem LoadsSound.putBack (tag : Byte) (h : LoadsSound s) (hp : s.power = .running) (one : 1 ≤ heldLen s) :
    LoadsSound (putBack (heldLen s) tag s.topReleased) := by
  have released : LoadsSound s.topReleased := h.releaseAtOnce hp one
  have length : heldLen s.topReleased = heldLen s - 1 := (releaseAtOnce_orphans h.1 one (Nat.le_refl _)).1
  have six := h.1.heldSix
  have new : isPending s.topReleased (heldLen s) = false :=
    (isPending_congr (by rw [topReleased_admission]) _).trans (not_isPending_of_held h.1 (Nat.le_refl _))
  have closed : s.topReleased.permits.doorOpen = false := by
    simpa [State.topReleased] using closed_of_held h.2 one
  unfold Machine.putBack
  split
  · exact released.insert rfl rfl rfl rfl ⟨by dsimp only; omega, six⟩ new closed
  · exact released

/-- The lists, the claim and the permits that a shed leaves are those of the chain settled after the release of the top
step, put back or not (R135). -/
theorem shed_settles (three : 3 ≤ heldLen s) :
    ∃ u, (u = s.topReleased ∨ ∃ tag, u = putBack (heldLen s) tag s.topReleased)
      ∧ SameLoads (settleChain u) (shed s) ∧ SamePlace (settleChain u) (shed s) := by
  have some_held : s.admission.held ≠ [] := by
    rintro none_held
    simp [heldLen, none_held] at three
  rw [shed_eq (List.getLast?_eq_some_getLast some_held)]
  generalize s.admission.held.getLast some_held = top
  refine ⟨if top.mark then s.topReleased else putBack (heldLen s) top.tag s.topReleased, ?_, by simp [SameLoads],
    by simp [SamePlace]⟩
  split
  · exact .inl rfl
  · exact .inr ⟨_, rfl⟩

theorem LoadsSound.of_same (h : LoadsSound s) (same : SameLoads s t) : LoadsSound t := by
  obtain ⟨held, pending, -, permits, power, -⟩ := same
  exact h.of_lists held pending permits power

theorem LoadsSound.shedTop (h : LoadsSound s) (hp : s.power = .running) (three : 3 ≤ heldLen s) :
    LoadsSound (Machine.shed s) := by
  obtain ⟨u, top, same, -⟩ := shed_settles three
  have one : 1 ≤ heldLen s := by omega
  have left : LoadsSound u := by
    obtain rfl | ⟨tag, rfl⟩ := top
    · exact h.releaseAtOnce hp one
    · exact h.putBack tag hp one
  exact left.settleChain.of_same same

theorem marked_held_length (low : Nat) (tag : Byte) (s : State) : heldLen (s.marked low tag) = heldLen s := by
  simp [heldLen, State.marked, markFrom]

theorem markFrom_getElem {low i : Nat} {l : List HeldStep} (hi : i < (markFrom low l).length) :
    ∃ h : i < l.length, (markFrom low l)[i].mark = (l[i].mark || decide (low ≤ i + 1)) := by
  have lt : i < l.length := by simpa [markFrom] using hi
  have marks := markFrom_getElem? low l i
  rw [List.getElem?_eq_getElem hi, List.getElem?_eq_getElem lt, Option.map_some, Option.some.injEq] at marks
  exact ⟨lt, congrArg HeldStep.mark marks⟩

/-- Marks from a heat step up (R133). -/
theorem LoadsSound.marked {low : Nat} (tag : Byte) (h : LoadsSound s) (three : 3 ≤ low) :
    LoadsSound (s.marked low tag) := by
  obtain ⟨hs, hp⟩ := h
  have length := marked_held_length low tag s
  have heat : heatCount (s.marked low tag) = heatCount s := by rw [heatCount, heatCount, length]
  constructor
  · refine ⟨length ▸ hs.heldSix, fun x hx => ?_, ?_, hs.pendingRising, length ▸ hs.pendingAbove⟩
    · obtain ⟨i, hi, rfl⟩ := List.mem_take_iff_getElem.mp hx
      obtain ⟨lt, mark⟩ := markFrom_getElem (low := low) (l := s.admission.held) (i := i) (by
        exact (Nat.lt_min.mp hi).2)
      have unmarked := hs.marksOnHeat s.admission.held[i] (List.mem_take_iff_getElem.mpr ⟨i, by omega, rfl⟩)
      have below : decide (low ≤ i + 1) = false := decide_eq_false (by omega)
      exact mark.trans (by rw [unmarked, below]; rfl)
    · refine List.pairwise_iff_getElem.mpr fun i j hi hj lt marked => ?_
      obtain ⟨hi', mark_i⟩ := markFrom_getElem hi
      obtain ⟨hj', mark_j⟩ := markFrom_getElem hj
      have upward := List.pairwise_iff_getElem.mp hs.marksUpward i j hi' hj' lt
      have marked' := mark_i.symm.trans marked
      refine mark_j.trans ?_
      rw [Bool.or_eq_true, decide_eq_true_eq] at marked' ⊢
      exact marked'.imp upward fun le => by omega
  · refine ⟨?_, hp.resetLow, hp.interlock, heat ▸ hp.dutyHeld, heat ▸ hp.dutyStarts, hp.counter, hp.blankDuty, ?_⟩
    · rw [length]
      exact hp.follow
    · intro opened
      obtain ⟨none_held, none_pending⟩ := hp.door opened
      exact ⟨by simp [State.marked, none_held, markFrom], none_pending⟩

/-! ## The requests and the heat period (R121, R130 to R133, R145) -/

theorem LoadsSound.requestStepOwner (r : Request) (h : LoadsSound s) : LoadsSound (requestStepOwner r s) := by
  cases hx : stepRefusal s r.param.toNat with
  | some x =>
    rw [requestStepOwner_refused hx]
    exact h.of_same (by simp [SameLoads])
  | none =>
    obtain ⟨⟨-, six⟩, -, closed, above, new, -⟩ := stepRefusal_eq_none_iff.mp hx
    rw [requestStepOwner_taken hx]
    exact h.insert rfl rfl rfl rfl ⟨above, six⟩ new closed

theorem LoadsSound.dropStepOwner (r : Request) (h : LoadsSound s) (hp : s.power = .running) :
    LoadsSound (dropStepOwner r s) := by
  have completed (x : Result) {u : State} (hu : LoadsSound u) : LoadsSound (completeService x 0 u) :=
    hu.of_same (by simp [SameLoads])
  unfold Machine.dropStepOwner
  dsimp only
  (repeat' split)
  · exact completed _ h
  · exact completed _ (h.cancelStep _).settleChain
  · rename_i good _ _ _
    have released := (h.releaseAtOnce (low := r.param.toNat) hp (by omega)).settleChain
    exact completed _ (released.of_lists (by simp) (by simp) (by simp) (by simp))
  · rename_i motor
    exact LoadsSound.settleChain (LoadsSound.marked r.tag (s := leaveService s) (h.of_same (by simp [SameLoads]))
      (by omega))
  · exact completed _ h

theorem LoadsSound.guardTest (h : LoadsSound s) : LoadsSound (guardTest s) := by
  obtain ⟨-, he⟩ | ⟨-, he⟩ := guardTest_cases s <;> rw [he]
  · exact h
  · exact (h.cancelStep 1).settleChain.of_lists (by simp [guardExpiry]) (by simp [guardExpiry]) (by simp [guardExpiry])
      (by simp [guardExpiry])

/-- A period's release leaves DRUM and AIR (R133). -/
theorem releaseMarked_fewer (hs : StepsSound s) : ∃ n, 2 ≤ n
    ∧ (releaseMarked s).admission.held = s.admission.held.take n
    ∧ (releaseMarked s).admission.pending.Sublist s.admission.pending := by
  obtain ⟨hm, -⟩ | ⟨low, hm, three, many, -⟩ := lowestMarked_cases hs
  · rw [releaseMarked_none hm]
    exact ⟨heldLen s + 2, by omega, (List.take_of_length_le (Nat.le_add_right _ 2)).symm, .refl _⟩
  · obtain ⟨admission, -⟩ := releaseMarked_some_outcome hs hm (by omega) many
    exact ⟨low - 1, by omega, by rw [admission], by rw [admission]; exact List.nil_sublist _⟩

/-- The marked steps have left and the new period is timed (R133, R145). -/
theorem LoadsSound.periodStart (h : LoadsSound s) (hp : s.power = .running) :
    LoadsSound (newPeriod (releaseMarked s)) := by
  have permits := newPeriod_releaseMarked_permits h hp (duty := heatCount (releaseMarked s))
    (by rw [← releaseMarked_held h.1]; rfl)
  obtain ⟨hs, sound⟩ := h
  obtain ⟨n, two, held, pending⟩ := releaseMarked_fewer hs
  have length : heldLen (releaseMarked s) = min n (heldLen s) := by rw [heldLen, held, List.length_take, heldLen]
  have power : (newPeriod (releaseMarked s)).power = .running := by simpa using hp
  have admission : (newPeriod (releaseMarked s)).admission = (releaseMarked s).admission := rfl
  have same : heldLen (newPeriod (releaseMarked s)) = heldLen (releaseMarked s) := rfl
  have heat : heatCount (newPeriod (releaseMarked s)) = heatCount (releaseMarked s) := rfl
  obtain ⟨drum, air⟩ := sound.follow (by simp [hp])
  refine ⟨(hs.of_fewer n held pending).congr admission, ?_, ?_, ?_, ?_, ?_, ?_, ?_, ?_⟩ <;>
    simp only [permits, power, same, heat]
  · exact fun _ => ⟨drum.trans (decide_eq_decide.mpr (by omega)), air.trans (decide_eq_decide.mpr (by omega))⟩
  · exact nofun
  · intro output
    have some_heat : heatCount (releaseMarked s) ≠ 0 := fun none_heat => by simp [none_heat] at output
    obtain ⟨drum, air, closed⟩ := sound.levels hp (by unfold heatCount at some_heat ⊢; omega)
    exact ⟨drum, air, closed, trivial, Nat.pos_of_ne_zero some_heat⟩
  · exact Nat.le_refl _
  · exact id
  · split <;> simp_all
  · exact nofun
  · intro opened
    obtain ⟨none_held, none_pending⟩ := sound.door opened
    rw [none_pending] at pending
    exact ⟨by simp [held, none_held], List.sublist_nil.mp pending⟩

/-! ## The starts, and a grant (R31, R51, R52, R126) -/

theorem LoadsSound.of_unloaded (h : Unloaded s) (low : s.permits.lowered = s.permits) : LoadsSound s := by
  have length : heldLen s = 0 := by simp [heldLen, h.held]
  have heat : heatCount s = 0 := by rw [heatCount, length]
  constructor
  · constructor <;> simp [length, h.held, h.pending]
  · rw [← show { s with permits := s.permits.lowered } = s by rw [low]]
    constructor <;> simp [Permits.lowered, heldLen, heatCount, h.held, h.pending]

theorem LoadsSound.holdReset (h : LoadsSound s) : LoadsSound (holdReset s) := by
  obtain ⟨hs, hp⟩ := h
  exact ⟨hs.congr rfl, fun other => absurd rfl other, fun _ => ⟨rfl, rfl, rfl⟩, nofun, hp.dutyHeld, hp.dutyStarts,
    hp.counter, hp.blankDuty, hp.door⟩

theorem LoadsSound.endScan (h : LoadsSound s) (hp : s.power = .scanning) : LoadsSound (endScan s) := by
  obtain ⟨hs, sound⟩ := h
  exact ⟨hs.congr rfl, fun _ => sound.follow (by simp [hp]), nofun, sound.interlock, sound.dutyHeld, sound.dutyStarts,
    sound.counter, sound.blankDuty, sound.door⟩

theorem LoadsSound.rests (h : LoadsSound s) (rests : AdmissionRests s t) : LoadsSound t := by
  obtain ⟨hs, hp⟩ := h
  obtain ⟨held, steps, -, ⟨drum, air, output, duty, period, blank, door⟩, -, -, -, power, -⟩ := rests
  have length : heldLen t = heldLen s := heldLen_congr held
  have heat : heatCount t = heatCount s := heatCount_congr held
  constructor
  · refine ⟨length ▸ hs.heldSix, held ▸ hs.marksOnHeat, held ▸ hs.marksUpward, ?_, fun p mem => ?_⟩
    · have rising : (s.admission.pending.map (·.step)).Pairwise (· < ·) := List.pairwise_map.mpr hs.pendingRising
      rw [← steps] at rising
      exact List.pairwise_map.mp rising
    · have mem := List.mem_map_of_mem (f := StepRequest.step) mem
      rw [steps] at mem
      obtain ⟨q, hq, same⟩ := List.mem_map.mp mem
      rw [length, ← same]
      exact hs.pendingAbove q hq
  · have opens : t.permits.doorOpen = true → t.admission.held = [] ∧ t.admission.pending = [] := fun opened => by
      obtain ⟨none_held, none_pending⟩ := hp.door (door opened)
      rw [none_pending, List.map_nil, List.map_eq_nil_iff] at steps
      exact ⟨held.trans none_held, steps⟩
    refine ⟨?_, ?_, fun high => ?_, ?_, ?_, ?_, ?_, opens⟩ <;>
      simp only [drum, air, duty, period, blank, power, length, heat]
    · exact hp.follow
    · intro reset
      obtain ⟨low_drum, low_air, low_heat⟩ := hp.resetLow reset
      exact ⟨low_drum, low_air, Bool.eq_false_iff.mpr fun high => by simp [output high] at low_heat⟩
    · obtain ⟨high_drum, high_air, closed, rest⟩ := hp.interlock (output high)
      exact ⟨high_drum, high_air, Bool.eq_false_iff.mpr fun opened => by simp [door opened] at closed, rest⟩
    · exact hp.dutyHeld
    · exact hp.dutyStarts
    · exact hp.counter
    · exact hp.blankDuty

theorem loadsSound_invariant : AdmissionInvariant LoadsSound where
  rests := LoadsSound.rests
  unloads := LoadsSound.of_unloaded
  frees h hp same unloaded permits := by
    obtain ⟨-, -, low⟩ := releaseAllForHost_of_same hp h.2 same
    refine .of_unloaded unloaded ?_
    rw [permits, low]
    rfl
  tries h := h.of_lists (by simp) (by simp) (by simp) (by simp)
  sheds := LoadsSound.shedTop
  caps := LoadsSound.capHeldSteps
  requests r h _ := h.requestStepOwner r
  drops r h hp := h.dropStepOwner r hp
  guards h _ := h.guardTest
  periods := LoadsSound.periodStart
  resets := LoadsSound.holdReset
  scans := LoadsSound.endScan

end Sys2Proof.Machine
end

section
/-! The commands that can open a join window as they bear on the loads, the end of a hold, and the loads over every
step (R46, R47, R69, R126, R142, R144, R158). -/

namespace Sys2Proof.Machine

variable {s t u : State}

/-! ## The commands that can open a join window -/

/-- The Admission Unit, the permits, the power and an open cycle stand; on mains in a configured part the line mode
and the settings stand too. -/
structure WindowOpens (s t : State) : Prop where
  admission : t.admission = s.admission
  permits : t.permits = s.permits
  power : t.power = s.power
  running : s.context.cycleState = .running → t.context.cycleState = .running
  resuming : s.context.cycleState = .resuming → t.context.cycleState = .resuming
  onMains : s.supply.supplyState = .onMains → s.settings.isSome = true →
    t.line.mode = s.line.mode ∧ t.settings = s.settings ∧ t.supply.supplyState = .onMains

namespace WindowOpens

theorem of_same (h : t.admission = s.admission ∧ t.permits = s.permits ∧ t.power = s.power
      ∧ t.context.cycleState = s.context.cycleState ∧ t.line.mode = s.line.mode ∧ t.settings = s.settings
      ∧ t.supply.supplyState = s.supply.supplyState) : WindowOpens s t := by
  obtain ⟨admission, permits, power, cycle, mode, settings, supply⟩ := h
  exact ⟨admission, permits, power, cycle.trans, cycle.trans, fun mains _ => ⟨mode, settings, supply.trans mains⟩⟩

theorem refl (s : State) : WindowOpens s s := of_same ⟨rfl, rfl, rfl, rfl, rfl, rfl, rfl⟩

theorem trans (h : WindowOpens s t) (h' : WindowOpens t u) : WindowOpens s u := by
  refine ⟨h'.admission.trans h.admission, h'.permits.trans h.permits, h'.power.trans h.power,
    fun hc => h'.running (h.running hc), fun hc => h'.resuming (h.resuming hc), fun mains configured => ?_⟩
  obtain ⟨mode, settings, supply⟩ := h.onMains mains configured
  obtain ⟨mode', settings', supply'⟩ := h'.onMains supply (settings ▸ configured)
  exact ⟨mode'.trans mode, settings'.trans settings, supply'⟩

/-- Outside ON_MAINS, or in a bare part, the line may change. -/
theorem of_away (admission : t.admission = s.admission) (permits : t.permits = s.permits) (power : t.power = s.power)
    (cycle : t.context.cycleState = s.context.cycleState)
    (away : s.supply.supplyState ≠ .onMains ∨ s.settings = none) : WindowOpens s t :=
  ⟨admission, permits, power, cycle.trans, cycle.trans, fun mains configured => by
    obtain gone | bare := away
    · exact absurd mains gone
    · simp [bare] at configured⟩

theorem assess (source : OffSource) (off : OffTime) (carried : Nat) (s : State) :
    WindowOpens s (assess source off carried s) := by
  refine ⟨by simp, by simp, by simp, fun hc => ?_, fun hc => ?_, fun mains _ => by simp [mains]⟩
  all_goals simp [Machine.assess, hc]

theorem acceptConfigure (raw : Settings) (bare : s.settings = none) : WindowOpens s (acceptConfigure raw s) := by
  have configured : WindowOpens s (s.configured raw) :=
    .of_away (by simp [State.configured]) (by simp [State.configured]) (by simp [State.configured])
      (by simp [State.configured]) (.inr bare)
  have assessed := configured.trans (assess .gauge (gaugeOffTime s.gauge.logRatio raw.clamped.halfLife)
    s.supply.carried _)
  rw [acceptConfigure_eq]
  dsimp only
  split <;> exact ⟨assessed.admission, assessed.permits, assessed.power, assessed.running, assessed.resuming,
    fun _ set => by simp [bare] at set⟩

theorem decideConfigure (r : Request) (s : State) : WindowOpens s (decideConfigure r s) := by
  unfold Machine.decideConfigure
  dsimp only
  (repeat' split)
  case isFalse.isFalse.isFalse =>
    rename_i bare _ _
    exact acceptConfigure _ (not_not.mp bare)
  all_goals exact of_same (by simp)

theorem configureOwner (r : Request) (s : State) : WindowOpens s (configureOwner r s) := by
  unfold Machine.configureOwner
  split
  · exact refl s
  · exact decideConfigure r s

theorem endReading (counter : BitVec 16) (s : State) : WindowOpens s (resumeConfigure (endReading counter s)) := by
  have read : WindowOpens s (Machine.endReading counter s) := of_same (by simp)
  unfold resumeConfigure
  split
  · exact read.trans (decideConfigure _ _)
  · exact read

theorem confirmStart (s : State) : WindowOpens s (confirmStart s) := by
  unfold Machine.confirmStart
  split
  · rename_i starting
    split <;> exact .of_away (by simp) (by simp) (by simp) (by simp) (.inl (by simp [starting.1]))
  · exact refl s

theorem confirmReturn (s : State) : WindowOpens s (confirmReturn s) := by
  rw [confirmReturn_eq]
  dsimp only
  split
  · rename_i returning
    have back : WindowOpens s s.backOnMains := by
      unfold State.backOnMains
      dsimp only
      split <;> exact .of_away (by simp) (by simp) (by simp) (by simp) (.inl (by simp [returning.1]))
    split
    · exact back.trans (assess _ _ _ _)
    · exact back.trans (of_away rfl rfl rfl rfl (.inr (not_not.mp ‹_›)))
  · exact refl s

end WindowOpens

/-- Each of the commands that can open a join window but the end of a hold leaves the loads alone. -/
theorem windowOpens_of_exec {c : Instr} (hc : joinsOrGrants c = true) (other : c ≠ .holdExpiry)
    (he : exec c s = .next t) : WindowOpens s t := by
  have running {f : State → State} (hf : WindowOpens s (f s)) (he : whenRunning f s = .next t) : WindowOpens s t :=
    whenRunning_keeps (.refl s) (fun _ => hf) he
  cases c
  case configure =>
    refine running (takeIntoService_keeps _ (.refl s) (fun u p hu => ?_)
      fun r u hu _ => hu.trans (.configureOwner r u)) he
    exact hu.trans (.of_same ⟨rfl, rfl, rfl, rfl, rfl, rfl, rfl⟩)
  case startupReadingEnd counter =>
    refine running ?_ he
    split
    · exact .endReading counter s
    · exact .refl s
  case returnConfirmation => exact running (.confirmStart s) he
  case warmReturn => exact running (.confirmReturn s) he
  case holdExpiry => exact absurd rfl other
  all_goals cases hc

/-- A property that looks at the loads alone over every step, from the commands that open a join window and the end of
a hold. -/
theorem AdmissionInvariant.kept {P : State → Prop} (inv : AdmissionInvariant P) (h : P s)
    (opens : ∀ rest, WindowOpens { s with pending := rest } t → P { s with pending := rest } → P t)
    (ends : ∀ rest, P { s with pending := rest } → s.power = .running → P (holdEnd { s with pending := rest }))
    (he : step s = .next t) : P t := by
  refine inv.step_keeps h (fun c rest hc front he => ?_) he
  by_cases hold : c = .holdExpiry
  · subst hold
    exact whenRunning_keeps front (ends rest front) he
  · exact opens rest (windowOpens_of_exec hc hold he) front

/-! ## The end of a hold (R126) -/

/-- At its end a hold stands, is withdrawn, or is granted as the step above those held. -/
theorem holdEnd_cases (hs : StepsSound s) : holdEnd s = s ∨ holdEnd s = withdrawClaim s ∨
    ∃ p u, p ∈ s.admission.pending ∧ p.step = heldLen s + 1 ∧ p.step ≤ 6
      ∧ TestPasses s p.step (arbOf s u) ∧ holdEnd s = grant p s := by
  unfold holdEnd
  split
  case h_2 | h_3 => exact .inl rfl
  split
  · exact .inl rfl
  split
  case h_2 => exact .inr (.inl rfl)
  rename_i n u k hc late o p hp
  split
  case isFalse => exact .inr (.inl rfl)
  rename_i passes
  have step : p.step = n := by simpa using List.find?_some hp
  have mem := List.mem_of_find?_eq_some hp
  obtain ⟨above, six⟩ := hs.pendingAbove p mem
  have tested := (admissionPasses_iff s n (arbOf s u)).mp passes
  have first := tested.2.2.1
  have below : n ≤ heldLen s + 1 := by
    obtain first | held := first
    · omega
    · have least := (heldUnmarked_le held).2
      omega
  exact .inr (.inr ⟨p, u, mem, by omega, six, step ▸ tested, rfl⟩)

theorem grant_loads (p : StepRequest) (s : State) : (grant p s).admission.held = (s.granted p).admission.held
    ∧ (grant p s).admission.pending = (s.granted p).admission.pending
    ∧ (grant p s).admission.claim = .unannounced ∧ (grant p s).permits = (s.granted p).permits
    ∧ (grant p s).power = s.power ∧ (grant p s).settings = s.settings ∧ (grant p s).line.mode = s.line.mode := by
  have free : (grantStep p s).admission.claim = .unannounced := by
    simp [grantStep_eq, State.granted, completeStep, addEvent, ductTest_eq]
  have same : (if s.context.cycleState = .resuming ∧ p.step = 1 then finalise (grantStep p s) else grantStep p s)
      = grant p s := rfl
  rw [← same]
  split <;> exact ⟨by simp [grantStep_eq], by simp [grantStep_eq], by simpa using free, by simp [grantStep_eq], by simp,
    by simp, by simp⟩

/-- The granted step joins steps without a mark. -/
theorem StepsSound.granted {p : StepRequest} (hs : StepsSound s) (next : p.step = heldLen s + 1) (six : p.step ≤ 6)
    (prerequisite : p.step = 1 ∨ heldUnmarked s (p.step - 1) = true) : StepsSound (s.granted p) := by
  have admission := granted_admission (s := s) (p := p) rfl
  have length : heldLen (s.granted p) = p.step := by simp [heldLen, admission, next]
  have before : ∀ x ∈ s.admission.held, x.mark = false := by
    cases top : s.admission.held.getLast? with
    | none => simp [List.getLast?_eq_none_iff.mp top]
    | some h =>
      refine hs.unmarked_of_top top ?_
      obtain first | held := prerequisite
      · have some_held := List.length_pos_of_mem (List.mem_of_getLast? top)
        unfold heldLen at next
        omega
      · have least : 1 ≤ heldLen s := by
          have bounds := heldUnmarked_le held
          omega
        rw [next, Nat.add_sub_cancel, heldUnmarked, heldLen, ← List.getLast?_eq_getElem?, top] at held
        simp at held
        exact held.2
  have unmarked : ∀ x ∈ (s.granted p).admission.held, x.mark = false := by
    simpa [admission, or_imp, forall_and] using before
  refine ⟨length ▸ six, fun x hx => unmarked x (List.mem_of_mem_take hx), ?_, ?_, fun q hq => ?_⟩
  · exact List.pairwise_of_forall_mem_list fun x hx y _ marked => by simp [unmarked x hx] at marked
  · rw [admission]
    exact hs.pendingRising.filter _
  · rw [admission, List.mem_filter, bne_iff_ne] at hq
    obtain ⟨above, most⟩ := hs.pendingAbove q hq.1
    exact ⟨by omega, most⟩

theorem PermitsSound.granted {p : StepRequest} (h : PermitsSound s) (hp : s.power = .running)
    (mem : p ∈ s.admission.pending) (next : p.step = heldLen s + 1) : PermitsSound (s.granted p) := by
  have admission := granted_admission (s := s) (p := p) rfl
  have length : heldLen (s.granted p) = p.step := by simp [heldLen, admission, next]
  have heat : heatCount (s.granted p) = p.step - 2 := by rw [heatCount, length]
  have power : (s.granted p).power = .running := by simp [State.granted, hp]
  have closed : s.permits.doorOpen = false := by
    by_contra opened
    obtain ⟨-, none_pending⟩ := h.door (by simpa using opened)
    simp [none_pending] at mem
  obtain motor | motorless := Nat.lt_or_ge 2 p.step |>.symm
  · have permits := granted_permits_motor motor next
    obtain ⟨output, duty, period, blank⟩ := h.noHeat (by unfold heatCount; omega)
    have none_heat : p.step - 2 = 0 := by omega
    refine ⟨fun _ => ?_, ?_, ?_, ?_, ?_, ?_, ?_, ?_⟩ <;>
      simp only [permits, length, power, heat, output, duty, period, blank, closed, none_heat]
    case refine_1 =>
      exact ⟨(decide_eq_true (by omega)).symm, decide_eq_decide.mpr (by omega)⟩
    all_goals simp
  · obtain ⟨drum, air⟩ := h.follow (by simp [hp])
    have one : 1 ≤ heldLen s ∧ 1 ≤ p.step := by omega
    have two : 2 ≤ heldLen s ∧ 2 ≤ p.step := by omega
    have idle (low : (s.granted p).power = .resetHeld) : (s.granted p).permits.drum = false
        ∧ (s.granted p).permits.air = false ∧ (s.granted p).permits.heat = false := by simp [power] at low
    have permits := granted_permits_heat motorless next h hp
    split at permits
    · refine ⟨fun _ => ?_, idle, fun _ => ?_, ?_, ?_, ?_, ?_, ?_⟩ <;>
        simp only [permits, length, heat, drum, air, closed, one, two, decide_true]
      case refine_1 => exact ⟨trivial, trivial⟩
      case refine_2 => exact ⟨trivial, trivial, trivial, trivial, by omega⟩
      case refine_3 => exact Nat.le_refl _
      case refine_4 => exact id
      case refine_5 => exact ⟨nofun, fun none_heat => by omega⟩
      all_goals exact nofun
    · rename_i duty
      have less := h.dutyHeld
      refine ⟨fun _ => ?_, idle, ?_, ?_, fun _ => ?_, ?_, ?_, ?_⟩ <;>
        simp only [permits, length, heat]
      case refine_1 => exact ⟨by simp [drum, one], by simp [air, two]⟩
      case refine_3 => unfold heatCount at less; omega
      case refine_4 => exact Nat.pos_of_ne_zero duty
      case refine_7 => exact fun opened => by simp [closed] at opened
      exacts [h.interlock, h.counter, h.blankDuty]

theorem LoadsSound.grant {p : StepRequest} (h : LoadsSound s) (hp : s.power = .running) (mem : p ∈ s.admission.pending)
    (next : p.step = heldLen s + 1) (six : p.step ≤ 6)
    (prerequisite : p.step = 1 ∨ heldUnmarked s (p.step - 1) = true) : LoadsSound (grant p s) := by
  obtain ⟨held, pending, -, permits, power, -⟩ := grant_loads p s
  have granted : LoadsSound (s.granted p) := ⟨h.1.granted next six prerequisite, h.2.granted hp mem next⟩
  exact granted.of_lists held pending permits (by simp [State.granted])

theorem LoadsSound.holdEnd (h : LoadsSound s) (hp : s.power = .running) : LoadsSound (holdEnd s) := by
  obtain he | he | ⟨p, u, mem, next, six, ⟨-, -, prerequisite, -⟩, he⟩ := holdEnd_cases h.1 <;> rw [he]
  · exact h
  · exact h.rests (.withdrawClaim s)
  · exact h.grant hp mem next six prerequisite

/-- Settles O9: each operation that moves the loads keeps them in accord, and a grant joins the step above those
held. -/
theorem loadsKept : Obligations.LoadsKept := by
  intro s t h he
  refine loadsSound_invariant.kept h (fun rest opens front => ?_) (fun rest front hp => front.holdEnd hp) he
  exact front.congr opens.admission opens.permits opens.power

end Sys2Proof.Machine
end

section
/-! The station's own demand over every step (R123, R126). -/

namespace Sys2Proof.Machine

variable {s t : State}

/-! ## The demands of the lowest steps -/

theorem stepsFrom_one_succ (n : Nat) : stepsFrom 1 (n + 1) = stepsFrom 1 n ++ [n + 1] := by
  simp [stepsFrom, List.range'_concat, Nat.add_comm]

theorem sumFeeder_succ (c : Settings) (n : Nat) : sumFeeder c 1 (n + 1) = sumFeeder c 1 n + stepFeeder c (n + 1) := by
  simp [sumFeeder, stepsFrom_one_succ]

theorem sumDuct_succ (c : Settings) (n : Nat) : sumDuct c 1 (n + 1) = sumDuct c 1 n + stepDuct c (n + 1) := by
  simp [sumDuct, stepsFrom_one_succ]

theorem sumFeeder_mono (c : Settings) : Monotone (sumFeeder c 1) :=
  monotone_nat_of_le_succ fun n => by simp [sumFeeder_succ]

theorem sumDuct_mono (c : Settings) : Monotone (sumDuct c 1) :=
  monotone_nat_of_le_succ fun n => by simp [sumDuct_succ]

/-! ## Steps that leave, and a grant -/

namespace DemandWithinLimits

theorem of_fewer (h : DemandWithinLimits s) (fewer : heldLen t ≤ heldLen s) (settings : t.settings = s.settings) :
    DemandWithinLimits t := by
  obtain ⟨feeder, duct⟩ := h
  have same : cfg t = cfg s := cfg_congr settings
  rw [DemandWithinLimits, ownFeeder, ownDuct, same]
  exact ⟨(sumFeeder_mono _ fewer).trans feeder, (sumDuct_mono _ fewer).trans duct⟩

theorem of_none_held (held : t.admission.held = []) : DemandWithinLimits t := by
  have none_held : heldLen t = 0 := by simp [heldLen, held]
  simp [DemandWithinLimits, ownFeeder, ownDuct, none_held, sumFeeder, sumDuct, stepsFrom]

/-- A step that fits joins the steps below it (R123, R126). -/
theorem grant {p : StepRequest} {a : Nat} (next : p.step = heldLen s + 1) (h : DemandWithinLimits s)
    (fits : Fits s p.step a) : DemandWithinLimits (grant p s) := by
  obtain ⟨held, -, -, -, -, settings, -⟩ := grant_loads p s
  have length : heldLen (Machine.grant p s) = heldLen s + 1 := by
    rw [heldLen, held, granted_admission rfl]
    simp [heldLen]
  obtain ⟨feeder, duct⟩ := fits
  rw [DemandWithinLimits, ownFeeder, ownDuct, cfg_congr settings, length, sumFeeder_succ, sumDuct_succ, ← next]
  refine ⟨by unfold ownFeeder at feeder; omega, ?_⟩
  unfold stepDuct
  split
  · rename_i air
    have room := duct air
    unfold ownDuct at room
    omega
  · exact h.2

end DemandWithinLimits

/-! ## Every operation and every step -/

theorem releaseAtOnce_fewer (low : Nat) (s : State) : heldLen (releaseAtOnce low s) ≤ heldLen s := by
  rw [heldLen, releaseAtOnce_admission]
  exact List.length_take_le' _ _

theorem shed_fewer (three : 3 ≤ heldLen s) : heldLen (shed s) ≤ heldLen s := by
  obtain ⟨u, top, ⟨held, -⟩, -⟩ := shed_settles three
  have fewer := releaseAtOnce_fewer (heldLen s) s
  have same : heldLen (shed s) = heldLen s.topReleased := by
    refine (heldLen_congr held).trans ?_
    obtain rfl | ⟨tag, rfl⟩ := top <;> simp [heldLen]
  exact same ▸ fewer

theorem capHeldSteps_fewer (s : State) : heldLen (capHeldSteps s) ≤ heldLen s := by
  unfold capHeldSteps
  dsimp only
  split
  · refine (releaseAtOnce_fewer (3 + (cfg s).soloCap) s).trans_eq' ?_
    simp [heldLen]
  · exact Nat.le_refl _

theorem releaseMarked_shorter (s : State) : heldLen (releaseMarked s) ≤ heldLen s := by
  unfold releaseMarked
  split
  · exact Nat.le_refl _
  · simp [heldLen]

theorem dropStepOwner_fewer (r : Request) (s : State) : heldLen (dropStepOwner r s) ≤ heldLen s := by
  unfold dropStepOwner
  dsimp only
  (repeat' split)
  case isTrue.isTrue => simpa [heldLen] using releaseAtOnce_fewer r.param.toNat s
  all_goals simp [heldLen, markFrom]

theorem demandWithinLimits_invariant : AdmissionInvariant DemandWithinLimits where
  rests h rests := h.of_fewer (heldLen_congr rests.held).le rests.settings
  unloads unloaded _ := .of_none_held unloaded.held
  frees _ _ _ unloaded _ := .of_none_held unloaded.held
  tries h := h.of_fewer (heldLen_congr (by simp)).le (by simp)
  sheds h _ three := h.of_fewer (shed_fewer three) (by simp)
  caps {s} h _ := h.of_fewer (capHeldSteps_fewer s) (by simp)
  requests r h _ := h.of_fewer (heldLen_congr (by simp)).le (by simp)
  drops {s} r h _ := h.of_fewer (dropStepOwner_fewer r s) (by simp)
  guards h _ := h.of_fewer (heldLen_congr (by simp)).le (by simp)
  periods {s} h _ := h.of_fewer (releaseMarked_shorter s) (by simp)
  resets h := h.of_fewer (Nat.le_refl _) rfl
  scans h _ := h.of_fewer (Nat.le_refl _) rfl

/-- A part that has a join window opened on it is off the line, and holds nothing then (R102, R126). -/
theorem WindowOpens.settings_of_held (opens : WindowOpens s t) (hl : LineSound s) (hc : ClaimSound s)
    (held : s.admission.held ≠ []) : t.settings = s.settings := by
  have on : s.line.mode ≠ .off := fun off => by simpa [off, LineMode.claims] using hc.heldMode held
  obtain ⟨mains, configured⟩ := hl.onMains on
  exact (opens.onMains mains configured).2.1

/-- Settles O12: a grant is of a step that fits above those held, and everything else leaves no more steps held. -/
theorem demandKept : Obligations.DemandKept := by
  intro s t hloads hline hclaim h he
  refine demandWithinLimits_invariant.kept h (fun rest opens front => ?_) (fun rest front _ => ?_) he
  · by_cases held : s.admission.held = []
    · exact .of_none_held (by rw [opens.admission, ← held])
    · have line : LineSound { s with pending := rest } := hline.congr ⟨rfl, rfl, rfl, rfl⟩
      have claim : ClaimSound { s with pending := rest } := hclaim.congr rfl rfl rfl rfl
      exact front.of_fewer (heldLen_congr (by rw [opens.admission])).le (opens.settings_of_held line claim held)
  · obtain same | withdrawn | ⟨p, u, -, next, -, ⟨-, -, -, fits, -⟩, granted⟩ :=
      holdEnd_cases (s := { s with pending := rest }) (hloads.1.congr rfl)
    · rwa [same]
    · rw [withdrawn]
      exact front.of_fewer (heldLen_congr (by simp)).le (by simp)
    · rw [granted]
      exact front.grant next fits

end Sys2Proof.Machine
end

section
/-! The claim over every step (R121, R122, R124, R126). -/

namespace Sys2Proof.Machine

variable {s t u : State}

/-! ## Where steps are held and requests wait -/

/-- What is held, pending and announced is so in the line modes and cycle states that allow it. -/
structure ClaimPlaced (s : State) : Prop where
  announced : announcedStep s ≠ none → s.line.mode.claims = true
  heldMode : s.admission.held ≠ [] → s.line.mode.claims = true
  heldCycle : s.admission.held ≠ [] → s.context.cycleState = .running
  pendingCycle : s.admission.pending ≠ [] → s.context.cycleState = .running ∨ s.context.cycleState = .resuming
  scanEmpty : s.power = .scanning → s.admission.held = [] ∧ s.admission.pending = []

theorem ClaimSound.placed (h : ClaimSound s) : ClaimPlaced s := by
  refine ⟨fun announced => ?_, h.heldMode, h.heldCycle, h.pendingCycle, h.scanEmpty⟩
  obtain ⟨n, hn⟩ := Option.ne_none_iff_exists'.mp announced
  exact (h.claimed n hn).2.2

/-- Requests leave, or take the place of held steps. -/
theorem ClaimPlaced.of_fewer (h : ClaimPlaced s) (held : s.admission.held = [] → t.admission.held = [])
    (pending : s.admission.held = [] → s.admission.pending = [] → t.admission.pending = [])
    (claim : t.admission.claim = s.admission.claim) (place : SamePlace s t) (power : t.power = s.power) :
    ClaimPlaced t := by
  obtain ⟨mode, cycle⟩ := place
  have announced : announcedStep t = announcedStep s := announcedStep_congr claim
  refine ⟨?_, fun some_held => ?_, fun some_held => ?_, fun some_pending => ?_, fun scanning => ?_⟩
  · rw [announced, mode]
    exact h.announced
  · exact mode ▸ h.heldMode (mt held some_held)
  · exact cycle.trans (h.heldCycle (mt held some_held))
  · rw [cycle]
    by_cases none_held : s.admission.held = []
    · exact h.pendingCycle (mt (pending none_held) some_pending)
    · exact .inl (h.heldCycle none_held)
  · obtain ⟨none_held, none_pending⟩ := h.scanEmpty (power ▸ scanning)
    exact ⟨held none_held, pending none_held none_pending⟩

/-! ## The chain settled (R122) -/

/-- A pending step whose prerequisite is held is the lowest one, and the one above those held. -/
theorem head_of_founded {n : Nat} (hs : StepsSound s) (waits : isPending s n = true)
    (prerequisite : prerequisiteHeld s n = true) : s.admission.pending.head?.map (·.step) = some n := by
  obtain ⟨p, mem, rfl⟩ : ∃ p ∈ s.admission.pending, p.step = n := by simpa [isPending] using waits
  obtain ⟨above, -⟩ := hs.pendingAbove p mem
  have next : p.step ≤ heldLen s + 1 := by
    by_contra far
    simp [prerequisiteHeld_of_above (Nat.not_le.mp far)] at prerequisite
  cases list : s.admission.pending with
  | nil => simp [list] at mem
  | cons q rest =>
    obtain ⟨first, -⟩ := hs.pendingAbove q (by simp [list])
    have rising := hs.pendingRising
    rw [list] at mem rising
    obtain rfl | mem := List.mem_cons.mp mem
    · rfl
    · have later := (List.pairwise_cons.mp rising).1 p mem
      omega

theorem splitChain_chained (heldBelow : Nat → Bool) (l : List StepRequest) (kept : List Nat) :
    ∀ p ∈ (splitChain heldBelow l kept).1, heldBelow p.step = true ∨ p.step - 1 ∈ kept
      ∨ ∃ q ∈ (splitChain heldBelow l kept).1, q.step = p.step - 1 := by
  induction l generalizing kept with
  | nil => simp [splitChain]
  | cons x rest ih =>
    unfold splitChain
    split
    · rename_i chained
      intro p mem
      obtain rfl | mem := List.mem_cons.mp mem
      · simp only [Bool.or_eq_true, List.contains_iff_mem] at chained
        exact chained.imp_right .inl
      · obtain below | before | ⟨q, hq, step⟩ := ih (x.step :: kept) p mem
        · exact .inl below
        · obtain step | before := List.mem_cons.mp before
          · exact .inr (.inr ⟨x, List.mem_cons_self, step.symm⟩)
          · exact .inr (.inl before)
        · exact .inr (.inr ⟨q, List.mem_cons_of_mem x hq, step⟩)
    · exact ih kept

/-- A claim that is not withdrawn as unfounded is founded. -/
theorem withdrawUnfounded_announced {n : Nat} (h : announcedStep (withdrawUnfounded s) = some n) :
    announcedStep s = some n ∧ isPending (withdrawUnfounded s) n = true
      ∧ prerequisiteHeld (withdrawUnfounded s) n = true := by
  rw [isPending_congr (s := s) (by simp), prerequisiteHeld_congr (s := s) (by simp)]
  unfold withdrawUnfounded at h
  split at h
  · rename_i none_announced
    rw [none_announced] at h
    cases h
  · rename_i m hm
    split at h
    · rename_i founded
      obtain rfl : m = n := by rwa [hm, Option.some.injEq] at h
      exact ⟨hm, by rwa [Bool.and_eq_true] at founded⟩
    · have free := withdrawClaim_claim s
      rw [announcedStep, free] at h
      cases h

/-- A claim that the settling of the chain leaves is founded (R122). -/
theorem settleChain_announced {n : Nat} (h : announcedStep (settleChain s) = some n) :
    announcedStep s = some n ∧ isPending (settleChain s) n = true ∧ prerequisiteHeld (settleChain s) n = true := by
  rw [settleChain_eq] at h ⊢
  exact withdrawUnfounded_announced h

/-- Settling the chain leaves the claim founded, whatever left the lists before it. -/
theorem ClaimPlaced.settleChain (h : ClaimPlaced s) (hs : StepsSound s) : ClaimSound (settleChain s) := by
  have prerequisite (n : Nat) := prerequisiteHeld_congr (t := Machine.settleChain s) (s := s) (by simp) n
  have sub : (Machine.settleChain s).admission.pending.Sublist s.admission.pending :=
    settleChain_pending s ▸ splitChain_sublist _ _ _
  have settled : StepsSound (Machine.settleChain s) := hs.of_fewer (heldLen s) (by simp [heldLen]) sub
  refine ⟨fun n hn => ?_, by simpa using h.heldMode, by simpa using h.heldCycle, fun some_pending => ?_,
    fun scans => ?_, fun p mem => ?_⟩
  · obtain ⟨announced, waits, held⟩ := settleChain_announced hn
    exact ⟨head_of_founded settled waits held, held, by simpa using h.announced (by simp [announced])⟩
  · simpa using h.pendingCycle fun none_pending => some_pending (List.sublist_nil.mp (none_pending ▸ sub))
  · obtain ⟨none_held, none_pending⟩ := h.scanEmpty (by simpa using scans)
    exact ⟨by simpa using none_held, List.sublist_nil.mp (none_pending ▸ sub)⟩
  · rw [prerequisite]
    have chained := splitChain_chained (prerequisiteHeld s) s.admission.pending [] p (settleChain_pending s ▸ mem)
    rw [← settleChain_pending] at chained
    simpa [isPending] using chained

/-! ## The operations (R121, R124, R130 to R138) -/

namespace ClaimSound

/-- A claim may go, the line may begin to permit claims, and a cycle without loads may move. -/
theorem of_rests (h : ClaimSound s) (held : t.admission.held = s.admission.held)
    (steps : t.admission.pending.map (·.step) = s.admission.pending.map (·.step))
    (claim : announcedStep t = none ∨ announcedStep t = announcedStep s)
    (mode : s.line.mode.claims = true → t.line.mode.claims = true)
    (running : s.context.cycleState = .running → t.context.cycleState = .running)
    (resuming : s.context.cycleState = .resuming → t.context.cycleState = .resuming)
    (power : t.power = .scanning → s.power = .scanning) : ClaimSound t := by
  have prerequisite := prerequisiteHeld_congr held
  have waits (n : Nat) : isPending t n = isPending s n := by
    have any (u : State) : isPending u n = (u.admission.pending.map (·.step)).any (· == n) := by
      simp [isPending, Function.comp_def]
    rw [any, any, steps]
  have empty : t.admission.pending = [] ↔ s.admission.pending = [] := by
    rw [← List.map_eq_nil_iff (f := StepRequest.step), steps, List.map_eq_nil_iff]
  have first : t.admission.pending.head?.map (·.step) = s.admission.pending.head?.map (·.step) := by
    rw [← List.head?_map, steps, List.head?_map]
  refine ⟨fun n hn => ?_, fun some_held => ?_, fun some_held => ?_, fun some_pending => ?_, fun scans => ?_,
    fun p mem => ?_⟩
  · obtain gone | stands := claim
    · simp [gone] at hn
    · obtain ⟨head, below, claims⟩ := h.claimed n (stands ▸ hn)
      exact ⟨first.trans head, (prerequisite n).trans below, mode claims⟩
  · exact mode (h.heldMode (held ▸ some_held))
  · exact running (h.heldCycle (held ▸ some_held))
  · exact (h.pendingCycle (mt empty.mpr some_pending)).imp running resuming
  · obtain ⟨none_held, none_pending⟩ := h.scanEmpty (power scans)
    exact ⟨held.trans none_held, empty.mpr none_pending⟩
  · have mem := List.mem_map_of_mem (f := StepRequest.step) mem
    rw [steps] at mem
    obtain ⟨q, hq, same⟩ := List.mem_map.mp mem
    rw [prerequisite, waits, ← same]
    exact h.chained q hq

theorem rests (h : ClaimSound s) (rests : AdmissionRests s t) : ClaimSound t :=
  h.of_rests rests.held rests.steps rests.claim rests.mode rests.running rests.resuming fun scans => rests.power ▸ scans

theorem of_unloaded (h : Unloaded t) : ClaimSound t := by
  obtain ⟨held, pending, claim⟩ := h
  constructor <;> simp [held, pending, claim]

theorem tryClaim (h : ClaimSound s) : ClaimSound (tryClaim s) := by
  obtain same | ⟨p, rest, -, hp, -, passes, made⟩ := tryClaim_cases s
  · rwa [same]
  refine h.of_claim (by simp) (by simp) (by simp) (by simp) (by simp) fun n hn => ?_
  rw [made] at hn
  obtain rfl : p.step = n := by simpa [announcedStep] using hn
  obtain ⟨off, joining, first, -⟩ := (admissionPasses_iff s _ _).mp passes
  exact ⟨by simp [hp], by simpa [prerequisiteHeld] using first, (claims_iff _).mpr ⟨off, joining⟩⟩

theorem shed (h : ClaimSound s) (hl : LoadsSound s) (hp : s.power = .running) (three : 3 ≤ heldLen s) :
    ClaimSound (shed s) := by
  obtain ⟨u, top, same, place⟩ := shed_settles three
  have one : 1 ≤ heldLen s := by omega
  have some_held : s.admission.held ≠ [] := by
    rintro none_held
    simp [heldLen, none_held] at one
  have left : StepsSound u := by
    obtain rfl | ⟨tag, rfl⟩ := top
    · exact (hl.releaseAtOnce hp one).1
    · exact (hl.putBack tag hp one).1
  have placed : ClaimPlaced u := by
    refine h.placed.of_fewer (fun none_held => absurd none_held some_held) (fun none_held => absurd none_held some_held)
      ?_ ?_ ?_ <;> obtain rfl | ⟨tag, rfl⟩ := top <;> simp [State.topReleased, SamePlace]
  exact (placed.settleChain left).rests (.of_same same place)

theorem capHeldSteps (h : ClaimSound s) (hl : LoadsSound s) (hp : s.power = .running) :
    ClaimSound (capHeldSteps s) := by
  unfold Machine.capHeldSteps
  dsimp only
  split
  · refine ClaimPlaced.settleChain (h.placed.of_fewer ?_ ?_ ?_ ?_ ?_) ?_
    case refine_6 =>
      exact (hl.releaseAtOnce (low := 3 + (cfg s).soloCap) hp (by omega)).1.of_lists (by simp) (by simp)
    case refine_1 => simp [releaseAtOnce_admission]
    all_goals simp [SamePlace]
  · exact h

theorem completed (x : Result) (h : ClaimSound s) : ClaimSound (completeService x 0 s) :=
  h.congr (by simp) (by simp) (by simp) (by simp)

theorem requestStepOwner (r : Request) (h : ClaimSound s) (hl : LoadsSound s) (hp : s.power = .running) :
    ClaimSound (requestStepOwner r s) := by
  have sound := (hl.requestStepOwner r).1
  cases hx : stepRefusal s r.param.toNat with
  | some x =>
    rw [requestStepOwner_refused hx]
    exact h.completed x
  | none =>
    obtain ⟨-, runs, -, -, -, chained⟩ := stepRefusal_eq_none_iff.mp hx
    have mem (q : StepRequest) : q ∈ (Machine.requestStepOwner r s).admission.pending
        ↔ q = ⟨r.param.toNat, r.tag, 0, 0⟩ ∨ q ∈ s.admission.pending := by
      rw [requestStepOwner_taken hx]
      exact mem_insertRequest
    have waits {n : Nat} (before : isPending s n = true) : isPending (Machine.requestStepOwner r s) n = true := by
      obtain ⟨q, hq, step⟩ := List.any_eq_true.mp before
      exact List.any_eq_true.mpr ⟨q, (mem q).mpr (.inr hq), step⟩
    have prerequisite (n : Nat) := prerequisiteHeld_congr (t := Machine.requestStepOwner r s) (s := s) (by simp) n
    have announced : announcedStep (Machine.requestStepOwner r s) = announcedStep s := announcedStep_congr (by simp)
    refine ⟨fun n hn => ?_, by simpa using h.heldMode, by simpa using h.heldCycle, fun _ => by simpa using runs,
      fun scans => by simp [hp] at scans, fun q hq => ?_⟩
    · obtain ⟨head, held, claims⟩ := h.claimed n (announced ▸ hn)
      obtain ⟨q, hq, step⟩ := Option.map_eq_some_iff.mp head
      have before : isPending s n = true :=
        List.any_eq_true.mpr ⟨q, List.mem_of_mem_head? hq, beq_iff_eq.mpr step⟩
      have held := (prerequisite n).trans held
      exact ⟨head_of_founded sound (waits before) held, held, by simpa using claims⟩
    · rw [prerequisite]
      obtain rfl | hq := (mem q).mp hq
      · exact chained.imp_right waits
      · exact (h.chained q hq).imp_right waits

theorem dropStepOwner (r : Request) (h : ClaimSound s) (hl : LoadsSound s) (hp : s.power = .running) :
    ClaimSound (dropStepOwner r s) := by
  unfold Machine.dropStepOwner
  dsimp only
  (repeat' split)
  case isTrue | isFalse.isFalse.isFalse => exact h.completed _
  · have placed : ClaimPlaced (cancelStep r.param.toNat s) := by
      refine h.placed.of_fewer (by simp) (fun _ none_pending => ?_) (by simp) (by simp [SamePlace]) (by simp)
      rwa [cancelStep_of_empty _ none_pending]
    exact (placed.settleChain (hl.cancelStep _).1).completed _
  · rename_i good _ _ _
    have placed : ClaimPlaced (releaseAtOnce r.param.toNat s) :=
      h.placed.of_fewer (fun none_held => by simp [releaseAtOnce_admission, none_held]) (by simp) (by simp)
        (by simp [SamePlace]) (by simp)
    have settled := placed.settleChain (hl.releaseAtOnce hp (by omega)).1
    exact (settled.rests (.of_same (by simp [SameLoads]) (by simp [SamePlace]))).completed _
  · rename_i motor
    have left : LoadsSound (leaveService s) := hl.of_same (by simp [SameLoads])
    refine ClaimPlaced.settleChain ?_ (left.marked r.tag (by omega)).1
    exact h.placed.of_fewer (fun none_held => by simp [none_held, markFrom]) (by simp) (by simp)
      (by simp [SamePlace]) (by simp)

theorem guardTest (h : ClaimSound s) (hs : StepsSound s) : ClaimSound (guardTest s) := by
  obtain ⟨-, he⟩ | ⟨expired, he⟩ := guardTest_cases s <;> rw [he]
  · exact h
  have none_held : s.admission.held = [] := by
    by_contra some_held
    simp [guardExpired, h.heldCycle some_held] at expired
  have settled := settleChain_cancelStep_drum none_held hs.pendingRising (lowestPending_drum hs h none_held)
  have none_pending : (completeAllPending .cancelled s).admission.pending = [] := by rw [completeAllPending_eq]
  have admission := withdrawClaim_admission none_pending
  rw [← settled] at admission
  have unloaded : Unloaded (settleChain (cancelStep 1 s)) :=
    ⟨by rw [admission, completeAllPending_eq]; exact none_held, by rw [admission]; exact none_pending,
      announcedStep_eq_none_iff.mpr (by rw [admission])⟩
  exact of_unloaded (unloaded.of_same (by simp [guardExpiry]))

theorem periodStart (h : ClaimSound s) (hs : StepsSound s) : ClaimSound (newPeriod (releaseMarked s)) := by
  obtain ⟨hm, -⟩ | ⟨low, hm, three, many, -⟩ := lowestMarked_cases hs
  · rw [releaseMarked_none hm]
    exact h.congr rfl rfl rfl rfl
  · obtain ⟨admission, -⟩ := releaseMarked_some_outcome hs hm (by omega) many
    have some_held : s.admission.held ≠ [] := by
      rintro none_held
      simp [heldLen, none_held] at many
      omega
    refine ⟨by simp [admission, announcedStep], fun _ => ?_, fun _ => ?_, by simp [admission],
      fun scans => ?_, by simp [admission]⟩
    · simpa using h.heldMode some_held
    · simpa using h.heldCycle some_held
    · obtain ⟨none_held, -⟩ := h.scanEmpty (by simpa using scans)
      exact absurd none_held some_held

end ClaimSound

/-! ## The grant (R86, R126) -/

/-- A grant is made in RUNNING, or is the drum grant that finalises the plan. -/
theorem grant_cycleState {p : StepRequest} (hy : CycleSound s)
    (runs : s.context.cycleState = .running ∨ (s.context.cycleState = .resuming ∧ p.step = 1)) :
    (grant p s).context.cycleState = .running := by
  obtain runs | ⟨resumes, drum⟩ := runs
  · rw [grant_running runs]
    simpa [grantStep_eq, State.granted] using runs
  · obtain ⟨plan, hplan⟩ := Option.isSome_iff_exists.mp (hy.resumingPlan resumes)
    obtain ⟨q, hq⟩ := Option.isSome_iff_exists.mp (hy.opened (by simp [resumes]))
    have context : (grantStep p s).context = s.context := by simp [grantStep_eq, State.granted]
    rw [grant_drum drum resumes, finalise, context, hplan, hq]
    simp [enterRunning]

theorem ClaimSound.grant {p : StepRequest} (h : ClaimSound s) (hs : StepsSound s) (hy : CycleSound s)
    (hp : s.power = .running) (mem : p ∈ s.admission.pending) (next : p.step = heldLen s + 1)
    (claims : s.line.mode.claims = true) : ClaimSound (grant p s) := by
  obtain ⟨held, pending, claim, -, -, -, mode⟩ := grant_loads p s
  rw [granted_admission rfl] at held pending
  dsimp only at held pending
  have runs : s.context.cycleState = .running ∨ (s.context.cycleState = .resuming ∧ p.step = 1) := by
    refine (h.pendingCycle (List.ne_nil_of_mem mem)).imp_right fun resumes => ⟨resumes, ?_⟩
    have none_held : s.admission.held = [] := by
      by_contra some_held
      simp [h.heldCycle some_held] at resumes
    simp [next, heldLen, none_held]
  have running := grant_cycleState hy runs
  refine ⟨by simp [announcedStep, claim], fun _ => mode ▸ claims, fun _ => running, fun _ => .inl running,
    fun scans => by simp [hp] at scans, fun q hq => ?_⟩
  rw [pending, List.mem_filter, bne_iff_ne] at hq
  obtain ⟨hq, other⟩ := hq
  obtain ⟨above, -⟩ := hs.pendingAbove q hq
  obtain below | before := h.chained q hq
  · rw [prerequisiteHeld_of_above (by omega)] at below
    cases below
  · obtain ⟨x, hx, step⟩ := List.any_eq_true.mp before
    rw [beq_iff_eq] at step
    by_cases first : x.step = p.step
    · left
      have top : q.step - 1 = s.admission.held.length + 1 := by unfold heldLen at next; omega
      simp [prerequisiteHeld, heldUnmarked, held, top]
    · right
      refine List.any_eq_true.mpr ⟨x, ?_, beq_iff_eq.mpr step⟩
      rw [pending, List.mem_filter, bne_iff_ne]
      exact ⟨hx, first⟩

/-! ## Every step -/

/-- While the recovery scan runs nothing is held, pending or announced. -/
theorem ClaimSound.unloaded_of_scanning (h : ClaimSound s) (hp : s.power = .scanning) : Unloaded s := by
  obtain ⟨held, pending⟩ := h.scanEmpty hp
  exact ⟨held, pending, h.unannounced pending⟩

theorem claimSound_invariant : AdmissionInvariant fun s => LoadsSound s ∧ ClaimSound s where
  rests h rests := ⟨h.1.rests rests, h.2.rests rests⟩
  unloads unloaded low := ⟨.of_unloaded unloaded low, .of_unloaded unloaded⟩
  frees h hp same unloaded permits :=
    ⟨loadsSound_invariant.frees h.1 hp same unloaded permits, .of_unloaded unloaded⟩
  tries h := ⟨loadsSound_invariant.tries h.1, h.2.tryClaim⟩
  sheds h hp three := ⟨h.1.shedTop hp three, h.2.shed h.1 hp three⟩
  caps h hp := ⟨h.1.capHeldSteps hp, h.2.capHeldSteps h.1 hp⟩
  requests r h hp := ⟨h.1.requestStepOwner r, h.2.requestStepOwner r h.1 hp⟩
  drops r h hp := ⟨h.1.dropStepOwner r hp, h.2.dropStepOwner r h.1 hp⟩
  guards h _ := ⟨h.1.guardTest, h.2.guardTest h.1.1⟩
  periods h hp := ⟨h.1.periodStart hp, h.2.periodStart h.1.1⟩
  resets h := ⟨h.1.holdReset, h.2.of_rests rfl rfl (.inr rfl) id id id nofun⟩
  scans h hp := ⟨h.1.endScan hp, .of_unloaded ((h.2.unloaded_of_scanning hp).of_same ⟨rfl, rfl, rfl⟩)⟩

theorem ClaimSound.windowOpens (h : ClaimSound s) (hl : LineSound s) (opens : WindowOpens s t) : ClaimSound t := by
  refine h.of_rests (by rw [opens.admission]) (by rw [opens.admission]) (.inr (announcedStep_congr ?_))
    (fun claims => ?_) opens.running opens.resuming fun scans => opens.power ▸ scans
  · rw [opens.admission]
  · have on : s.line.mode ≠ .off := fun off => by simp [off, LineMode.claims] at claims
    obtain ⟨mains, configured⟩ := hl.onMains on
    rw [(opens.onMains mains configured).1]
    exact claims

theorem ClaimSound.holdEnd (h : ClaimSound s) (hs : StepsSound s) (hy : CycleSound s) (hp : s.power = .running) :
    ClaimSound (holdEnd s) := by
  obtain he | he | ⟨p, u, mem, next, -, ⟨off, joining, -⟩, he⟩ := holdEnd_cases hs <;> rw [he]
  · exact h
  · exact h.rests (.withdrawClaim s)
  · exact h.grant hs hy hp mem next ((claims_iff _).mpr ⟨off, joining⟩)

/-- Settles O11: whatever changes the lists settles the chain or leaves no claim, and a line that goes off the mains
holds nothing. -/
theorem claimKept : Obligations.ClaimKept := by
  intro s t hloads hline hcycle hclaim he
  refine (claimSound_invariant.kept ⟨hloads, hclaim⟩ (fun rest opens front => ?_) (fun rest front hp => ?_) he).2
  · exact ⟨front.1.congr opens.admission opens.permits opens.power,
      front.2.windowOpens (hline.congr ⟨rfl, rfl, rfl, rfl⟩) opens⟩
  · exact ⟨front.1.holdEnd hp, front.2.holdEnd front.1.1 (hcycle.congr ⟨rfl, rfl, rfl, rfl, rfl⟩) hp⟩

end Sys2Proof.Machine
end

section
/-! The two limits on requests and events through the shared operations (R155): a post goes into room alone, a
completion takes the place of its request, and a step is put back into room alone. -/

namespace Sys2Proof.Machine

variable {s t : State}

/-! ## Lists that are divided between what stays and what is completed -/

/-- R122: every pending request stays chained or becomes an orphan. -/
theorem splitChain_length (heldBelow : Nat → Bool) (l : List StepRequest) (kept : List Nat) :
    (splitChain heldBelow l kept).1.length + (splitChain heldBelow l kept).2.length = l.length := by
  induction l generalizing kept with
  | nil => rfl
  | cons p rest ih =>
    unfold splitChain
    split
    · have split_rest := ih (p.step :: kept)
      simp only [List.length_cons]
      omega
    · have split_rest := ih kept
      simp only [List.length_cons]
      omega

/-- A pending request leaves with its step. -/
theorem filter_step_length {p : StepRequest} {l : List StepRequest} (mem : p ∈ l) :
    (l.filter fun q => q.step != p.step).length + 1 ≤ l.length :=
  List.length_filter_lt_length_iff_exists.mpr ⟨p, mem, by simp⟩

/-- The room test of R153: both limits leave room for one more. -/
theorem requestRoom_iff (s : State) :
    requestRoom s = true ↔ outstanding s < 8 ∧ outstanding s + eventsWaiting s < 16 := by
  rw [requestRoom, Bool.and_eq_true, decide_eq_true_iff, hasRoom_iff]
  rfl

/-- The request queue, the request in service, the events, the pending requests and the waiters stand. -/
def SameCounts (s t : State) : Prop :=
  t.port.requests = s.port.requests ∧ t.port.inService = s.port.inService ∧ t.port.events = s.port.events
  ∧ t.admission.pending = s.admission.pending ∧ t.admission.waiters = s.admission.waiters

namespace WithinLimits

/-! ## What keeps the limits -/

/-- Nothing is added, but events in the place of outstanding requests. -/
theorem of_fewer (h : WithinLimits s) (fewer : outstanding t ≤ outstanding s)
    (replaced : outstanding t + eventsWaiting t ≤ outstanding s + eventsWaiting s) : WithinLimits t :=
  ⟨fewer.trans h.1, replaced.trans h.2⟩

theorem of_same (h : WithinLimits s) (same : SameCounts s t) : WithinLimits t := by
  obtain ⟨requests, service, events, pending, waiters⟩ := same
  have counted := outstanding_congr requests service pending waiters
  have waiting : eventsWaiting t = eventsWaiting s := by rw [eventsWaiting, events, eventsWaiting]
  exact h.of_fewer counted.le (by rw [counted, waiting])

theorem of_started (port : t.port = Port.initial) (admission : t.admission = Admission.initial) :
    WithinLimits t := by
  simp [WithinLimits, outstanding, eventsWaiting, port, admission, Port.initial, Admission.initial]

/-- R159: an event other than a completion joins the queue in the room that is left, or is dropped. -/
theorem post (e : Event) (h : WithinLimits s) : WithinLimits (post e s) :=
  ⟨(outstanding_post s e).trans_le h.1, eventsWaiting_post s e h.2⟩

/-- The context does not count. -/
theorem of_context (c : Context) (h : WithinLimits s) : WithinLimits { s with context := c } :=
  h.of_same ⟨rfl, rfl, rfl, rfl, rfl⟩

/-! ## Completions -/

/-- R155: pending requests and waiters give their places to their completions. -/
theorem of_completed {l : List Event} (h : WithinLimits s) (requests : t.port.requests = s.port.requests)
    (service : t.port.inService = s.port.inService) (events : t.port.events = s.port.events ++ l)
    (places : t.admission.pending.length + t.admission.waiters.length + l.length
      ≤ s.admission.pending.length + s.admission.waiters.length) : WithinLimits t := by
  refine h.of_fewer ?_ ?_
  · simp only [outstanding, requests, service]
    omega
  · simp only [outstanding, eventsWaiting, requests, service, events, List.length_append]
    omega

/-- R154: the request in service gives its place to its completion. -/
theorem completeService (x : Result) (m : BitVec 24) (h : WithinLimits s) : WithinLimits (completeService x m s) := by
  cases hr : s.port.inService with
  | none => rwa [completeService_none x m hr]
  | some r =>
    rw [completeService_some x m hr]
    refine h.of_fewer ?_ (Nat.le_of_eq ?_)
    · simp [outstanding, hr]
    · simp [outstanding, eventsWaiting, hr]
      omega

theorem finishWaiters (h : WithinLimits s) : WithinLimits (finishWaiters s) := by
  have divided := s.admission.waiters.length_eq_length_filter_add fun w => decide (heldLen s < w.step)
  rw [finishWaiters_eq]
  refine h.of_completed rfl rfl rfl ?_
  rw [List.length_map]
  dsimp only
  omega

theorem completeAllPending (x : Result) (h : WithinLimits s) : WithinLimits (completeAllPending x s) := by
  rw [completeAllPending_eq]
  refine h.of_completed rfl rfl rfl ?_
  simp only [List.length_map, List.length_nil]
  omega

theorem withdrawClaim (h : WithinLimits s) : WithinLimits (withdrawClaim s) :=
  h.of_same (by simp [SameCounts])

theorem settleChain (h : WithinLimits s) : WithinLimits (settleChain s) := by
  have divided := splitChain_length (prerequisiteHeld s) s.admission.pending []
  rw [settleChain_eq]
  refine h.of_completed (by simp) (by simp) (by simp; rfl) ?_
  simp only [withdrawUnfounded_frame, List.length_map]
  omega

theorem cancelStep (n : Nat) (h : WithinLimits s) : WithinLimits (cancelStep n s) := by
  unfold Machine.cancelStep
  split
  · exact h
  · rename_i p found
    obtain rfl : p.step = n := by simpa using List.find?_some found
    have left := filter_step_length (List.mem_of_find?_eq_some found)
    refine h.of_completed rfl rfl rfl ?_
    simp only [completeStep, addEvent, List.length_singleton]
    omega

/-! ## Releases (R132 to R135) -/

theorem releaseAtOnce (low : Nat) (h : WithinLimits s) : WithinLimits (releaseAtOnce low s) :=
  h.of_same (by simp [SameCounts])

theorem postStepLost (low : Nat) (cause : LostCause) (h : WithinLimits s) :
    WithinLimits (postStepLost low cause s) :=
  h.post _

theorem releaseAllForHost (h : WithinLimits s) : WithinLimits (releaseAllForHost s) :=
  ((h.releaseAtOnce 1).finishWaiters.completeAllPending .cancelled).withdrawClaim

theorem releaseMarked (h : WithinLimits s) : WithinLimits (releaseMarked s) := by
  unfold Machine.releaseMarked
  split
  · exact h
  · exact (of_same h (by simp [SameCounts])).settleChain.finishWaiters

theorem capHeldSteps (h : WithinLimits s) : WithinLimits (capHeldSteps s) := by
  unfold Machine.capHeldSteps
  dsimp only
  split
  · exact ((h.releaseAtOnce _).finishWaiters.postStepLost _ _).settleChain
  · exact h

/-- R135 step 2: a shed step is put back where there is room for it. -/
theorem putBack (n : Nat) (tag : Byte) (h : WithinLimits s) : WithinLimits (putBack n tag s) := by
  unfold Machine.putBack
  split
  · rename_i room
    obtain ⟨below, room⟩ := room
    have total := (hasRoom_iff s).mp room
    have longer := (insertRequest_perm ⟨n, tag, 0, 0⟩ s.admission.pending).length_eq
    simp only [Config.requestLimit, outstanding, eventsWaiting, List.length_cons] at below total longer
    simp only [WithinLimits, outstanding, eventsWaiting]
    omega
  · exact h

theorem shed (h : WithinLimits s) : WithinLimits (shed s) := by
  unfold Machine.shed
  dsimp only
  split
  · exact h
  · rename_i top _
    have released := h.releaseAtOnce (heldLen s)
    have back : WithinLimits (if top.mark then Machine.releaseAtOnce (heldLen s) s
        else Machine.putBack (heldLen s) top.tag (Machine.releaseAtOnce (heldLen s) s)) := by
      split
      · exact released
      · exact released.putBack _ _
    exact (back.settleChain.finishWaiters.postStepLost _ _).of_same ⟨rfl, rfl, rfl, rfl, rfl⟩

theorem overcommitTest (h : WithinLimits s) : WithinLimits (overcommitTest s) := by
  obtain he | ⟨-, -, -, he⟩ := overcommitTest_cases s <;> rw [he]
  exacts [h, h.shed]

/-! ## Grants and view changes (R110, R126, R137) -/

theorem ductTest (h : WithinLimits s) : WithinLimits (ductTest s) := by
  unfold Machine.ductTest
  dsimp only
  (repeat' split)
  · exact h
  · exact (h.of_same (t := { s with admission := { s.admission with ductEpisode := true } })
      ⟨rfl, rfl, rfl, rfl, rfl⟩).post _
  · exact h.of_same ⟨rfl, rfl, rfl, rfl, rfl⟩

/-- R126: the granted request gives its place to its completion. -/
theorem grantStep {p : StepRequest} (mem : p ∈ s.admission.pending) (h : WithinLimits s) :
    WithinLimits (grantStep p s) := by
  have left := filter_step_length mem
  rw [grantStep_eq]
  refine ductTest (h.of_completed (by simp [State.granted]) (by simp [State.granted])
    (by simp [State.granted, completeStep, addEvent]; rfl) ?_)
  simp only [State.granted, completeStep_frame, restartGrantTimer_frame, offer_frame, permitsAtGrant_frame,
    List.length_singleton]
  omega

theorem viewChange (h : WithinLimits s) : WithinLimits (viewChange s) := by
  have retested : WithinLimits (retestClaim s) := h.of_same (by simp [SameCounts])
  rw [viewChange_eq]
  refine ductTest ?_
  unfold State.feederTested
  split
  · exact retested.overcommitTest
  · exact retested

theorem soloEntry (h : WithinLimits s) : WithinLimits (soloEntry s) := by
  have capped := h.capHeldSteps
  unfold Machine.soloEntry
  dsimp only
  (repeat' split)
  case h_1.isFalse => exact capped.withdrawClaim
  all_goals exact capped

/-! ## The cycle's events and records (R80 to R87) -/

theorem actOnPlan (p : Plan) (h : WithinLimits s) : WithinLimits (actOnPlan p s) := by
  have posted : WithinLimits (postPlan p s) := h.post _
  unfold Machine.actOnPlan
  dsimp only
  split <;> exact posted.of_same (by simp [SameCounts])

theorem assess (source : OffSource) (off : OffTime) (carried : Nat) (h : WithinLimits s) :
    WithinLimits (assess source off carried s) := by
  have staged : WithinLimits { s with assessor := { s.assessor with stage := .provisional } } :=
    h.of_same ⟨rfl, rfl, rfl, rfl, rfl⟩
  unfold Machine.assess
  dsimp only
  split
  case h_1 => exact staged.post _
  case h_4 | h_5 => exact h
  all_goals
    split
    · exact (staged.of_context _).actOnPlan _
    · exact staged.of_context _

theorem finalise (h : WithinLimits s) : WithinLimits (finalise s) := by
  unfold Machine.finalise
  split
  · dsimp only
    refine of_context _ (post _ (h.of_same ?_))
    simp [SameCounts]
  · exact h

theorem grant {p : StepRequest} (mem : p ∈ s.admission.pending) (h : WithinLimits s) : WithinLimits (grant p s) := by
  unfold Machine.grant
  dsimp only
  split
  · exact (h.grantStep mem).finalise
  · exact h.grantStep mem

theorem guardTest (h : WithinLimits s) : WithinLimits (guardTest s) := by
  obtain ⟨-, he⟩ | ⟨-, he⟩ := guardTest_cases s <;> rw [he]
  · exact h
  · have recorded : WithinLimits (writeRecord .closed (.close .guardExpired)
        (Machine.settleChain (Machine.cancelStep 1 s))) :=
      (h.cancelStep 1).settleChain.of_same (by simp [SameCounts])
    have told : WithinLimits (postExpiry (writeRecord .closed (.close .guardExpired)
        (Machine.settleChain (Machine.cancelStep 1 s)))) := by
      unfold postExpiry
      split
      · exact recorded.post _
      · exact recorded
    exact told.of_same (by simp [SameCounts, guardExpiry])

end WithinLimits

end Sys2Proof.Machine
end

section
/-! The two limits over the line, the requests, the timers, the supply and the starts, and over every step (R153,
R155, R159). -/

namespace Sys2Proof.Machine

namespace WithinLimits

variable {s t : State}

/-! ## The line and the view (R95 to R98, R102 to R104, R108 to R112) -/

theorem changeMode (mode : LineMode) (cause : LineCause) (h : WithinLimits s) :
    WithinLimits (changeMode mode cause s) := by
  have told : WithinLimits (Machine.post (.line mode cause) { s with line := { s.line with mode := mode } }) :=
    post _ (h.of_same ⟨rfl, rfl, rfl, rfl, rfl⟩)
  unfold Machine.changeMode
  dsimp only
  split
  · exact told.soloEntry
  · exact told

theorem hearPeer (f : Frame) (h : WithinLimits s) : WithinLimits (hearPeer f s) := by
  have heard : WithinLimits { s with view := writeEntry (entryOf f) s.view } := h.of_same ⟨rfl, rfl, rfl, rfl, rfl⟩
  have known : WithinLimits (s.peerKnown f) := by
    unfold State.peerKnown
    dsimp only
    split
    · rw [← post_line]
      exact post _ (heard.of_same ⟨rfl, rfl, rfl, rfl, rfl⟩)
    · exact heard
  have changed := known.viewChange
  rw [hearPeer_eq]
  split
  · exact changed.of_same (by simp [SameCounts])
  · exact changed

theorem hearDuplicate (h : WithinLimits s) : WithinLimits (hearDuplicate s) := by
  unfold Machine.hearDuplicate
  split
  · exact h
  · exact changeMode _ _ (h.of_same (by simp [SameCounts]))

theorem endFrame (g : Gathered) (h : WithinLimits s) : WithinLimits (endFrame g s) := by
  obtain he | ⟨f, -, -, -, he⟩ := endFrame_cases s g <;> rw [he]
  · exact h
  · unfold judgeFrame
    split
    · exact h.hearDuplicate
    · exact h.hearPeer f

theorem endFrames (l : List Gathered) (h : WithinLimits s) :
    WithinLimits (l.foldl (fun u g => Machine.endFrame g u) s) := by
  induction l generalizing s with
  | nil => exact h
  | cons g rest ih => exact ih (h.endFrame g)

theorem receive (samples : List Bool) (h : WithinLimits s) : WithinLimits (receive samples s) := by
  obtain he | ⟨-, -, he⟩ := receive_cases s samples <;> rw [he]
  · exact h
  · exact endFrames _ (h.of_same ⟨rfl, rfl, rfl, rfl, rfl⟩)

theorem removeEntry (n : Nat) (h : WithinLimits s) : WithinLimits (removeEntry n s) := by
  have left : WithinLimits (s.without n) := viewChange (h.of_same ⟨rfl, rfl, rfl, rfl, rfl⟩)
  rw [removeEntry_eq]
  split
  · unfold lastEntryRemoved
    split
    · exact left.changeMode _ _
    all_goals exact left
  · exact left

theorem failHead (f : QueuedFrame) (h : WithinLimits s) : WithinLimits (failHead f s) := by
  obtain he | ⟨-, he⟩ | ⟨-, he⟩ | ⟨-, he⟩ := failHead_cases s f <;> rw [he]
  case inr.inr.inr => exact changeMode _ _ (h.of_same (by simp [SameCounts]))
  all_goals exact h.of_same (by simp [SameCounts])

theorem failAttempt (a : Attempt) (bit : Nat) (h : WithinLimits s) : WithinLimits (failAttempt a bit s) := by
  have ended : WithinLimits (endAttempt (misreadLevels a.bytes bit) s) := h.of_same ⟨rfl, rfl, rfl, rfl, rfl⟩
  unfold Machine.failAttempt
  dsimp only
  (repeat' split)
  · exact ended.failHead _
  · exact ended.of_same (by simp [SameCounts])
  · exact (ended.failHead a.frame).of_same (by simp [SameCounts, dropWithdrawnClaim])

theorem finishAttempt (a : Attempt) (h : WithinLimits s) : WithinLimits (finishAttempt a s) := by
  have read : WithinLimits (restartPresence (dropHead (ownFrameRead a s))) := h.of_same (by simp [SameCounts])
  have cleared : WithinLimits (clearFault (restartPresence (dropHead (ownFrameRead a s)))) := by
    unfold clearFault
    split
    · exact read.changeMode _ _
    all_goals exact read
  unfold Machine.finishAttempt
  dsimp only
  split <;> exact cleared.of_same (by simp [SameCounts])

/-! ## The requests (R4 to R7, R9, R121, R130, R154, R157) -/

/-- R154: the head of the queue keeps its place while it is in service. -/
theorem served (isKind : Byte → Bool) {owner : Request → State → State} (h : WithinLimits s)
    (own : ∀ r u, u.port.inService = some r → WithinLimits u → WithinLimits (owner r u)) :
    WithinLimits (takeIntoService isKind owner s) := by
  obtain he | ⟨r, rest, u, free, head, -, hu, taken⟩ := takeIntoService_cases s isKind owner
  · rwa [he]
  · have counted : outstanding u = outstanding s := by
      simp [hu, outstanding, free, head]
    have serving : WithinLimits u := h.of_fewer counted.le (by rw [counted, hu]; exact le_rfl)
    obtain ⟨x, -, he⟩ | ⟨-, he⟩ := taken <;> rw [he]
    · exact serving.completeService x 0
    · exact own r u (by rw [hu]) serving

theorem openCycleOwner (r : Request) (h : WithinLimits s) : WithinLimits (openCycleOwner r s) := by
  unfold Machine.openCycleOwner
  dsimp only
  (repeat' split)
  case h_2.isFalse => exact (h.of_same (by simp [SameCounts])).completeService _ _
  all_goals exact h.completeService _ _

theorem hostStopOwner (r : Request) (h : WithinLimits s) : WithinLimits (hostStopOwner r s) := by
  unfold Machine.hostStopOwner
  dsimp only
  split
  · have released := (h.of_context (stoppedContext r.param s.context)).releaseAllForHost
    exact (released.of_same (by simp [SameCounts])).completeService _ _
  · exact h.completeService _ _

theorem continueCycleOwner (r : Request) (h : WithinLimits s) : WithinLimits (continueCycleOwner r s) := by
  unfold Machine.continueCycleOwner
  dsimp only
  split
  · exact (h.of_same (by simp [SameCounts])).completeService _ _
  · exact h.completeService _ _

theorem closeCycleOwner (r : Request) (h : WithinLimits s) : WithinLimits (closeCycleOwner r s) := by
  unfold Machine.closeCycleOwner
  split
  case h_4 | h_5 => exact h.completeService _ _
  all_goals exact (h.releaseAllForHost.of_same (by simp [SameCounts])).completeService _ _

theorem acceptPlan (plan : Plan) (h : WithinLimits s) : WithinLimits (acceptPlan plan s) := by
  unfold Machine.acceptPlan
  exact guardTest (completeService _ _ (h.of_same ⟨rfl, rfl, rfl, rfl, rfl⟩))

theorem resumeAnswerOwner (r : Request) (h : WithinLimits s) : WithinLimits (resumeAnswerOwner r s) := by
  unfold Machine.resumeAnswerOwner
  (repeat' split)
  · exact h.completeService _ _
  · exact h.completeService _ _
  · exact h.acceptPlan _
  · exact h.completeService _ _
  · exact (h.of_same (by simp [SameCounts])).completeService _ _
  · exact h.completeService _ _

/-- R121, R133: a request leaves service for a place of its own in the Admission Unit. -/
theorem of_moved {r : Request} (h : WithinLimits s) (service : s.port.inService = some r)
    (port : t.port = (leaveService s).port)
    (places : t.admission.pending.length + t.admission.waiters.length
      ≤ s.admission.pending.length + s.admission.waiters.length + 1) : WithinLimits t := by
  have fewer : outstanding t ≤ outstanding s := by
    simp [outstanding, port, service]
    omega
  have same : eventsWaiting t = eventsWaiting s := by rw [eventsWaiting, port]; rfl
  exact h.of_fewer fewer (by omega)

theorem requestStepOwner {r : Request} (service : s.port.inService = some r) (h : WithinLimits s) :
    WithinLimits (requestStepOwner r s) := by
  cases passed : stepRefusal s r.param.toNat with
  | some x =>
    rw [requestStepOwner_refused passed]
    exact h.completeService x 0
  | none =>
    have longer := (insertRequest_perm ⟨r.param.toNat, r.tag, 0, 0⟩ s.admission.pending).length_eq
    rw [requestStepOwner_taken passed]
    exact h.of_moved service rfl (by simp [longer]; omega)

theorem dropStepOwner {r : Request} (service : s.port.inService = some r) (h : WithinLimits s) :
    WithinLimits (dropStepOwner r s) := by
  unfold Machine.dropStepOwner
  dsimp only
  (repeat' split)
  · exact h.completeService _ _
  · exact (h.cancelStep _).settleChain.completeService _ _
  · exact (h.releaseAtOnce _).settleChain.finishWaiters.completeService _ _
  · exact settleChain (h.of_moved service rfl (by simp; omega))
  · exact h.completeService _ _

theorem decideConfigure (r : Request) (h : WithinLimits s) : WithinLimits (decideConfigure r s) := by
  unfold Machine.decideConfigure
  dsimp only
  (repeat' split)
  case isFalse.isFalse.isFalse =>
    have configured : WithinLimits (s.configured r.settings) :=
      completeService _ _ (h.of_same ⟨rfl, rfl, rfl, rfl, rfl⟩)
    have assessed := configured.assess .gauge (gaugeOffTime s.gauge.logRatio r.settings.clamped.halfLife)
      s.supply.carried
    rw [acceptConfigure_eq]
    dsimp only
    split <;> exact assessed.of_same ⟨rfl, rfl, rfl, rfl, rfl⟩
  all_goals exact h.completeService _ _

theorem configureOwner (r : Request) (h : WithinLimits s) : WithinLimits (configureOwner r s) := by
  unfold Machine.configureOwner
  split
  · exact h
  · exact h.decideConfigure r

/-- The rule of every kind of request keeps the limits for the request in service. -/
theorem owner (k : RequestKind) (r : Request) (service : s.port.inService = some r) (h : WithinLimits s) :
    WithinLimits (k.owner r s) := by
  cases k
  case configure => exact h.configureOwner r
  case openCycle => exact h.openCycleOwner r
  case requestStep => exact h.requestStepOwner service
  case dropStep => exact h.dropStepOwner service
  case hostStop => exact h.hostStopOwner r
  case continueCycle => exact h.continueCycleOwner r
  case closeCycle => exact h.closeCycleOwner r
  case resumeAnswer => exact h.resumeAnswerOwner r

/-! ## The gauge, the timers, the supply and the door (R12, R13, R37, R41, R47, R58 to R62, R126, R149) -/

theorem gaugeFault (cause : GaugeCause) (h : WithinLimits s) : WithinLimits (gaugeFault cause s) :=
  post _ (h.of_same ⟨rfl, rfl, rfl, rfl, rfl⟩)

theorem endReading (counter : BitVec 16) (h : WithinLimits s) :
    WithinLimits (resumeConfigure (endReading counter s)) := by
  have read : WithinLimits (Machine.endReading counter s) := by
    unfold Machine.endReading
    dsimp only
    split
    · exact gaugeFault _ (h.of_same ⟨rfl, rfl, rfl, rfl, rfl⟩)
    · exact h.of_same ⟨rfl, rfl, rfl, rfl, rfl⟩
  unfold resumeConfigure
  split
  · exact read.decideConfigure _
  · exact read

theorem judgeCharging (counter : BitVec 16) (h : WithinLimits s) : WithinLimits (judgeCharging counter s) := by
  have kept (n : Nat) : WithinLimits (keepCount n s) := h.of_same ⟨rfl, rfl, rfl, rfl, rfl⟩
  unfold Machine.judgeCharging
  dsimp only
  (repeat' split)
  · exact h.gaugeFault _
  · exact h.of_same ⟨rfl, rfl, rfl, rfl, rfl⟩
  · exact (kept _).gaugeFault _
  · exact (kept _).gaugeFault _
  · exact h.of_same ⟨rfl, rfl, rfl, rfl, rfl⟩

theorem judgeRefresh (counter : BitVec 16) (h : WithinLimits s) : WithinLimits (judgeRefresh counter s) := by
  unfold Machine.judgeRefresh
  (repeat' split)
  · exact h.gaugeFault _
  · exact h.gaugeFault _
  · exact h.of_same ⟨rfl, rfl, rfl, rfl, rfl⟩

theorem freshnessLimit (h : WithinLimits s) : WithinLimits (freshnessLimit s) := by
  unfold Machine.freshnessLimit
  dsimp only
  (repeat' split)
  · exact h.of_context _
  · exact (h.of_context _).post _
  · exact h

theorem stillSecond (h : WithinLimits s) : WithinLimits (stillSecond s) := by
  unfold Machine.stillSecond
  split
  · exact (h.of_context _).guardTest
  · exact h

theorem confirmReturn (h : WithinLimits s) : WithinLimits (confirmReturn s) := by
  have told : WithinLimits (Machine.post (.mainsBack s.supply.lossReading)
      (enterOnMains { s with supply := { s.supply with lossRunning := false } })) :=
    post _ (h.of_same ⟨rfl, rfl, rfl, rfl, rfl⟩)
  have back : WithinLimits s.backOnMains := by
    unfold State.backOnMains
    dsimp only
    split <;> exact told.of_same (by simp [SameCounts])
  rw [confirmReturn_eq]
  dsimp only
  (repeat' split)
  · exact back.assess _ _ _
  · exact back.of_same ⟨rfl, rfl, rfl, rfl, rfl⟩
  · exact h

/-- R41 step 3: the pending requests are completed, and the list is empty before the Admission Unit starts anew. -/
theorem lossAdmission (h : WithinLimits s) : WithinLimits (lossAdmission s) := by
  have completed : WithinLimits { Machine.completeAllPending .cancelled s with admission :=
      { (Machine.completeAllPending .cancelled s).admission with held := [] } } :=
    (h.completeAllPending _).of_same ⟨rfl, rfl, rfl, rfl, rfl⟩
  have finished := completed.finishWaiters
  unfold Machine.lossAdmission
  dsimp only
  split
  · exact (finished.postStepLost 1 .loss).of_completed (l := []) rfl rfl (by simp) (by simp [Admission.initial])
  · exact finished.of_completed (l := []) rfl rfl (by simp) (by simp [Admission.initial])

theorem declareLoss (h : WithinLimits s) : WithinLimits (declareLoss s) := by
  have recorded : WithinLimits s.lossRecorded :=
    (lossAdmission (s := s.lossGauge) (h.of_same ⟨rfl, rfl, rfl, rfl, rfl⟩)).of_same
      (by simp [SameCounts, State.lossRecorded])
  have told : WithinLimits s.lossTold := post _ (recorded.of_same ⟨rfl, rfl, rfl, rfl, rfl⟩)
  have held : WithinLimits s.lossHeld := told.of_same (by simp [SameCounts, State.lossHeld])
  rw [declareLoss_eq]
  exact held.completeService _ _

theorem dropout (h : WithinLimits s) : WithinLimits (dropout s) := by
  unfold Machine.dropout
  (repeat' split)
  case h_1 | h_2 => exact h.declareLoss
  case h_3 => exact h.of_same (by simp [SameCounts])
  all_goals exact h

theorem holdEnd (h : WithinLimits s) : WithinLimits (holdEnd s) := by
  unfold Machine.holdEnd
  split
  · split
    · exact h
    · split
      · rename_i found
        split
        · exact h.grant (List.mem_of_find?_eq_some found)
        · exact h.withdrawClaim
      · exact h.withdrawClaim
  all_goals exact h

theorem openDoor (h : WithinLimits s) : WithinLimits (openDoor s) := by
  have read : WithinLimits s.doorRead := h.of_same ⟨rfl, rfl, rfl, rfl, rfl⟩
  have finished := (read.releaseAtOnce 1).finishWaiters
  have released : WithinLimits s.doorReleased := by
    unfold State.doorReleased
    dsimp only
    split
    · exact (finished.postStepLost 1 .door).completeAllPending _
    · exact finished.completeAllPending _
  rw [openDoor_eq]
  exact released.withdrawClaim.of_same (by simp [SameCounts])

/-! ## Time -/

theorem idle (h : WithinLimits s) : WithinLimits (idle s) := by
  obtain he | ⟨c, he⟩ | ⟨-, -, he⟩ := idle_cases s <;> rw [he]
  · exact h
  · exact h.of_same ⟨rfl, rfl, rfl, rfl, rfl⟩
  · exact h.of_completed (l := []) rfl rfl (by simp [tick]) (by simp [tick, tickAdmission])

/-! ## The commands -/

/-- R153: a request joins the queue where both limits leave room for it. -/
theorem sendRequestBody (mosi : List Byte) (h : WithinLimits s) : WithinLimits (sendRequestBody mosi s).1 := by
  unfold Machine.sendRequestBody
  dsimp only
  (repeat' split)
  · exact h
  · rename_i room
    rw [requestRoom_iff] at room
    simp only [WithinLimits, outstanding, eventsWaiting, List.length_append, List.length_singleton] at room ⊢
    omega
  · exact h

theorem takeEventBody (n : Nat) (h : WithinLimits s) : WithinLimits (takeEventBody n s).1 := by
  unfold Machine.takeEventBody
  dsimp only
  split
  · exact h
  · refine h.of_fewer (Nat.le_of_eq rfl) ?_
    simp [outstanding, eventsWaiting]

theorem transaction {k : TransactionKind} {mosi : List Byte} {body : List Byte → State → State × List Byte}
    (h : WithinLimits s) (hb : WithinLimits (body mosi.tail s).1) : WithinLimits (transaction k mosi body s) := by
  unfold Machine.transaction
  (repeat' split)
  · exact hb.of_same ⟨rfl, rfl, rfl, rfl, rfl⟩
  all_goals exact h.of_same ⟨rfl, rfl, rfl, rfl, rfl⟩

theorem exec_ofLine {c : Instr} (hc : ofLine c = true) (h : WithinLimits s) (he : exec c s = .next t) :
    WithinLimits t := by
  cases c
  case attemptStart | arbitrationLost | presenceDue | joinSlot =>
    simp only [exec, execAttemptStart, execArbitrationLost, execPresenceDue, execJoinSlot] at he
    refine whenRunning_keeps h (fun _ => h.of_same ?_) he
    (repeat' split) <;> simp [SameCounts]
  case bitError bit =>
    simp only [exec, execBitError] at he
    refine whenRunning_keeps h (fun _ => ?_) he
    (repeat' split)
    · exact h.failAttempt _ bit
    all_goals exact h
  case lineHeld =>
    refine whenRunning_keeps h (fun _ => ?_) he
    obtain same | ⟨f, -, -, failed⟩ := lineHeld_cases s
    · rwa [same]
    · rw [failed]
      exact failHead f (h.of_same ⟨rfl, rfl, rfl, rfl, rfl⟩)
  case frameSent =>
    simp only [exec, execFrameSent] at he
    refine whenRunning_keeps h (fun _ => ?_) he
    split
    · exact h.finishAttempt _
    · exact h
  case frameReceived => exact whenRunning_keeps h (fun _ => h.receive _) he
  case joinWindowEnd =>
    refine whenRunning_keeps h (fun _ => AdmissionInvariant.ite (fun _ => ?_) h) he
    exact changeMode _ _ (h.of_same ⟨rfl, rfl, rfl, rfl, rfl⟩)
  case peerSilent n =>
    refine whenRunning_keeps h (fun _ => AdmissionInvariant.ite (fun _ => ?_) h) he
    exact viewChange (h.of_same ⟨rfl, rfl, rfl, rfl, rfl⟩)
  case peerRemoved n => exact whenRunning_keeps h (fun _ => AdmissionInvariant.ite (fun _ => h.removeEntry n) h) he
  all_goals cases hc

theorem exec_command (k : RequestKind) (h : WithinLimits s) (he : exec k.command s = .next t) : WithinLimits t := by
  rw [Machine.exec_command] at he
  exact whenRunning_keeps h (fun _ => h.served _ fun r _ service hu => hu.owner k r service) he

theorem exec_keeps {c : Instr} (h : WithinLimits s) (he : exec c s = .next t) : WithinLimits t := by
  cases hc : ofLine c
  case true => exact exec_ofLine hc h he
  cases c
  case sendRequest mosi => exact Host.Outcome.next.inj he ▸ h.transaction (h.sendRequestBody _)
  case takeEvent mosi => exact Host.Outcome.next.inj he ▸ h.transaction (h.takeEventBody _)
  case writeProgress mosi =>
    refine Host.Outcome.next.inj he ▸ h.transaction (h.of_same ?_)
    unfold writeProgressBody
    split <;> simp [SameCounts]
  case readStatus mosi =>
    refine Host.Outcome.next.inj he ▸ h.transaction (h.of_same ?_)
    unfold readStatusBody
    split <;> simp [SameCounts]
  case configure => exact exec_command .configure h he
  case openCycle => exact exec_command .openCycle h he
  case requestStep => exact exec_command .requestStep h he
  case dropStep => exact exec_command .dropStep h he
  case hostStop => exact exec_command .hostStop h he
  case continueCycle => exact exec_command .continueCycle h he
  case closeCycle => exact exec_command .closeCycle h he
  case resumeAnswer => exact exec_command .resumeAnswer h he
  case unknownKindServed => exact whenRunning_keeps h (fun _ => h.served _ fun _ _ _ hu => hu.completeService _ _) he
  case freshnessExpiry => exact whenRunning_keeps h (fun _ => h.freshnessLimit) he
  case stillTimerSecond => exact whenRunning_keeps h (fun _ => h.stillSecond) he
  case dropout => exact whenRunning_keeps h (fun _ => h.dropout) he
  case warmReturn => exact whenRunning_keeps h (fun _ => h.confirmReturn) he
  case holdExpiry => exact whenRunning_keeps h (fun _ => h.holdEnd) he
  case startupReadingEnd n =>
    exact whenRunning_keeps h (fun _ => AdmissionInvariant.ite (fun _ => h.endReading n) h) he
  case chargingConversionEnd n =>
    exact whenRunning_keeps h (fun _ => AdmissionInvariant.ite (fun _ => h.judgeCharging n) h) he
  case refreshEnd n => exact whenRunning_keeps h (fun _ => AdmissionInvariant.ite (fun _ => h.judgeRefresh n) h) he
  case shedSettleExpiry =>
    refine whenRunning_keeps h (fun _ => AdmissionInvariant.ite (fun _ => ?_) h) he
    exact overcommitTest (h.of_same ⟨rfl, rfl, rfl, rfl, rfl⟩)
  case waitingAgeSecond n =>
    simp only [exec, execWaitingAgeSecond] at he
    exact whenRunning_keeps h (fun _ => h.of_completed (l := []) rfl rfl (by simp) (by simp)) he
  case heatPeriodStart =>
    refine whenRunning_keeps h (fun _ => AdmissionInvariant.ite (fun _ => ?_) h) he
    exact h.releaseMarked.of_same ⟨rfl, rfl, rfl, rfl, rfl⟩
  case doorOpening => exact whenRunning_keeps h (fun _ => AdmissionInvariant.ite (fun _ => h.openDoor) h) he
  case coldStart => exact Host.Outcome.next.inj he ▸ of_started rfl rfl
  case coreSupplyFail => exact Host.Outcome.next.inj he ▸ AdmissionInvariant.ite (fun _ => h) (of_started rfl rfl)
  case pinStart => exact Host.Outcome.next.inj he ▸ AdmissionInvariant.ite (fun _ => of_started rfl rfl) h
  case resetN | recoveryScan | mainsZcPulse | vholdReading | writeComplete =>
    refine Host.Outcome.next.inj he ▸ h.of_same ?_
    (repeat' split) <;> simp [SameCounts]
  case attemptStart | arbitrationLost | bitError | lineHeld | frameSent | frameReceived | presenceDue | joinSlot
    | joinWindowEnd | peerSilent | peerRemoved =>
    cases hc
  all_goals
    simp only [exec, execJournalInterval, execLossTimerSecond, execReturnConfirmation, execChargingConversionStart,
      execRefreshStart, execAdmissionTest, execSpacingElapsed, execRampElapsed, execOnTimeEnd, execDoorClosing] at he
    refine whenRunning_keeps h (fun _ => h.of_same ?_) he
    (repeat' split) <;> simp [SameCounts]

end WithinLimits

/-- Settles O5: requests and steps come in through room alone, and what is completed leaves its place to its event. -/
theorem limitsKept : Obligations.LimitsKept := by
  intro s t h he
  unfold step at he
  split at he
  · rename_i c rest _
    exact (h.of_same (t := { s with pending := rest }) ⟨rfl, rfl, rfl, rfl, rfl⟩).exec_keeps he
  · exact Host.Outcome.next.inj he ▸ h.idle

end Sys2Proof.Machine
end

section
/-! The transactions of a running part and ATTN_N (R152, R153, R160, R161, R163). -/

namespace Sys2Proof.Machine

variable {s : State}

/-! ## What SDO carries (R152) -/

theorem padTo_cons (n : Nat) (b : Byte) (l : List Byte) : padTo (n + 1) (b :: l) = b :: padTo n l := by
  simp [padTo]

theorem padTo_nil (n : Nat) : padTo n [] = List.replicate n 0 := by
  simp [padTo]

theorem padTo_length (n : Nat) (l : List Byte) : (padTo n l).length = n := by
  simp only [padTo, List.length_append, List.length_take, List.length_replicate]
  omega

/-- Bytes that all go out, with 00h beyond them. -/
theorem padTo_of_le {n : Nat} {l : List Byte} (h : l.length ≤ n) :
    padTo n l = l ++ List.replicate (n - l.length) 0 := by
  rw [padTo, List.take_of_length_le h]

/-- Bytes of which the first alone go out. -/
theorem padTo_of_lt {n : Nat} {l : List Byte} (h : n < l.length) : padTo n l = l.take n := by
  simp [padTo, Nat.sub_eq_zero_of_le h.le]

theorem padTo_zeros (n m : Nat) : padTo n (List.replicate m 0) = List.replicate n 0 := by
  rw [padTo, List.take_replicate, List.replicate_append_replicate, List.length_replicate]
  congr 1
  omega

/-- A transaction of a running part under its own command byte: the body's effect, and on SDO the events waiting at
its start before the body's bytes. -/
theorem transaction_answers (k : TransactionKind) (rest : List Byte) {body : List Byte → State → State × List Byte}
    {t : State} {out : List Byte} (hp : s.power = .running) (hb : body rest s = (t, out)) :
    transaction k (k.code :: rest) body s = { t with port := { t.port with
      sdo := byte8 (eventsWaiting s) :: padTo rest.length out } } := by
  rw [transaction_running k rest body hp, hb, shiftOut, List.length_cons, padTo_cons]

/-! ## SEND_REQUEST (R153) -/

/-- The state with a request at the tail of its queue. -/
def State.queued (r : Request) (s : State) : State :=
  { s with port := { s.port with requests := s.port.requests ++ [r] } }

theorem requestOf_eq (record : List Byte) :
    requestOf record = ⟨byteAt record 0, byteAt record 1, (record.drop 2).take 26⟩ := by
  rw [requestOf, List.drop_take]
  rfl

theorem sendRequestBody_short {record : List Byte} (short : record.length < 28) :
    sendRequestBody record s = (s, []) :=
  if_pos short

theorem sendRequestBody_accepted {record : List Byte} (full : 28 ≤ record.length) (below : outstanding s < 8)
    (room : outstanding s + eventsWaiting s < 16) :
    sendRequestBody record s = (s.queued (requestOf record), List.replicate 28 0 ++ [0x01]) :=
  (if_neg (Nat.not_lt.mpr full)).trans (if_pos ((requestRoom_iff s).mpr ⟨below, room⟩))

theorem sendRequestBody_refused {record : List Byte} (full : 28 ≤ record.length)
    (none_left : 8 ≤ outstanding s ∨ 16 ≤ outstanding s + eventsWaiting s) :
    sendRequestBody record s = (s, List.replicate 28 0 ++ [0x02]) := by
  have no_room : ¬ requestRoom s = true := by
    rw [requestRoom_iff]
    omega
  exact (if_neg (Nat.not_lt.mpr full)).trans (if_neg no_room)

theorem exec_sendRequest {record : List Byte} {t : State} {out : List Byte} (hp : s.power = .running)
    (hb : sendRequestBody record s = (t, out)) :
    exec (.sendRequest (0x3C :: record)) s = .next { t with port := { t.port with
      sdo := byte8 (eventsWaiting s) :: padTo record.length out } } :=
  congrArg Host.Outcome.next (transaction_answers .sendRequest record hp hb)

/-- Settles O15: the record accepted, refused and cut short. -/
theorem sendRequestOutcome : Obligations.SendRequestOutcome := by
  refine fun record s hp => ⟨fun full below room => ?_, fun full none_left => ?_, fun short => ?_⟩
  · rw [exec_sendRequest hp (sendRequestBody_accepted full below room), requestOf_eq]
    rfl
  · exact exec_sendRequest hp (sendRequestBody_refused full none_left)
  · rw [exec_sendRequest hp (sendRequestBody_short short), padTo_nil]

/-! ## TAKE_EVENT (R160) -/

theorem event_bytes_length (e : Event) : e.bytes.length = 24 :=
  padTo_length 24 _

/-- The state without its oldest event. -/
def State.eventTaken (s : State) : State := { s with port := { s.port with events := s.port.events.tail } }

theorem takeEventBody_short {n : Nat} (short : n < 24) :
    takeEventBody n s = (s, (s.port.events.head?.map Event.bytes).getD emptyMarker) :=
  if_pos short

theorem takeEventBody_full {n : Nat} (full : 24 ≤ n) :
    takeEventBody n s = (s.eventTaken, (s.port.events.head?.map Event.bytes).getD emptyMarker) :=
  if_neg (Nat.not_lt.mpr full)

theorem eventTaken_of_empty (h : s.port.events = []) : s.eventTaken = s := by
  have same : s.port = { s.port with events := s.port.events.tail } := by rw [h, List.tail_nil, ← h]
  rw [State.eventTaken, ← same]

theorem exec_takeEvent {clocked : List Byte} {t : State} {out : List Byte} (hp : s.power = .running)
    (hb : takeEventBody clocked.length s = (t, out)) :
    exec (.takeEvent (0x5A :: clocked)) s = .next { t with port := { t.port with
      sdo := byte8 (eventsWaiting s) :: padTo clocked.length out } } :=
  congrArg Host.Outcome.next (transaction_answers .takeEvent clocked hp hb)

/-- Settles O16: the oldest event shifted out whole or in part, or the empty marker. -/
theorem takeEventOutcome : Obligations.TakeEventOutcome := by
  refine fun clocked s hp => ⟨fun e rest he => ?_, fun he => ?_⟩
  · have latched : (s.port.events.head?.map Event.bytes).getD emptyMarker = e.bytes := by rw [he]; rfl
    have waiting : eventsWaiting s = rest.length + 1 := by rw [eventsWaiting, he, List.length_cons]
    have length := event_bytes_length e
    refine ⟨length, fun full => ?_, fun short => ?_⟩
    · rw [exec_takeEvent hp (takeEventBody_full full), latched, padTo_of_le (length.trans_le full), length, waiting,
        State.eventTaken, he]
      rfl
    · rw [exec_takeEvent hp (takeEventBody_short short), latched, padTo_of_lt (short.trans_eq length.symm), waiting]
  · have latched : (s.port.events.head?.map Event.bytes).getD emptyMarker = List.replicate 24 0 := by rw [he]; rfl
    have waiting : byte8 (eventsWaiting s) = 0 := by rw [eventsWaiting, he]; rfl
    obtain short | full := Nat.lt_or_ge clocked.length 24
    · rw [exec_takeEvent hp (takeEventBody_short short), latched, padTo_zeros, waiting]
    · rw [exec_takeEvent hp (takeEventBody_full full), latched, padTo_zeros, waiting, eventTaken_of_empty he]

/-! ## READ_STATUS (R163) -/

theorem readStatusBody_short {n : Nat} (short : n < 9) : readStatusBody n s = (s, statusBytes s) :=
  if_pos short

theorem readStatusBody_full {n : Nat} (full : 9 ≤ n) :
    readStatusBody n s
      = ({ s with port := { s.port with eventsLost := false, progressRejected := false } }, statusBytes s) :=
  if_neg (Nat.not_lt.mpr full)

theorem statusBytes_length (s : State) : (statusBytes s).length = 9 := rfl

/-- Two codes of four bits each in one byte. -/
theorem nibbles_of_lt (high : Nat) {low : Nat} (h : low < 16) : nibbles high low = byte8 (high * 16 + low) := by
  rw [nibbles, Nat.mod_eq_of_lt h]

theorem GaugeState.code_lt (g : GaugeState) : g.code < 16 := by
  cases g <;> decide

theorem LineMode.code_lt (m : LineMode) : m.code < 16 := by
  unfold LineMode.code
  split <;> decide

theorem exec_readStatus {clocked : List Byte} {t : State} {out : List Byte} (hp : s.power = .running)
    (hb : readStatusBody clocked.length s = (t, out)) :
    exec (.readStatus (0xC3 :: clocked)) s = .next { t with port := { t.port with
      sdo := byte8 (eventsWaiting s) :: padTo clocked.length out } } :=
  congrArg Host.Outcome.next (transaction_answers .readStatus clocked hp hb)

theorem flagBit_isSome {α : Type} (o : Option α) (place : Nat) [Decidable (o = none)] :
    flagBit o.isSome place = if o = none then 0 else 2 ^ place := by
  cases o <;> simp [flagBit]

/-- Settles O17: the summary's bytes spelled out, and the two flags once the ninth has gone. -/
theorem readStatusOutcome : Obligations.ReadStatusOutcome := by
  intro clocked s hp m n cause supply gauge cycle mode solo id summary
  have cycleId : (s.context.progress.map (·.cycleId)).getD 0 = id := by
    simp only [id]
    cases s.context.progress <;> rfl
  have spelled : statusBytes s = summary := by
    have gauge_nibble := nibbles_of_lt s.supply.supplyState.code s.gauge.gaugeState.code_lt
    have mode_nibble := nibbles_of_lt s.context.cycleState.code s.line.mode.code_lt
    rw [statusBytes, gauge_nibble, mode_nibble, flagBit_isSome, cycleId]
    rfl
  have length : summary.length = 9 := rfl
  refine ⟨fun full => ?_, fun short => ?_⟩
  · rw [exec_readStatus hp (readStatusBody_full full), spelled, padTo_of_le full, length]
  · rw [exec_readStatus hp (readStatusBody_short short), spelled, padTo_of_lt short]

/-! ## ATTN_N (R161) -/

theorem attnLow_running (hp : s.power = .running) : attnLow s = true ↔ s.port.events ≠ [] := by
  simp [attnLow, outOfReset, hp]

theorem attnLow_resetHeld (hp : s.power = .resetHeld) : attnLow s = false := by
  simp [attnLow, outOfReset, hp]

theorem attnLow_of_no_events (h : s.port.events = []) : attnLow s = false := by
  simp [attnLow, h]

/-- An event for which there is no room leaves the queue as it is (R159). -/
theorem attnLow_post_dropped (e : Event) (full : 16 ≤ outstanding s + eventsWaiting s) :
    attnLow (post e s) = attnLow s := by
  obtain ⟨room, -⟩ | ⟨-, he⟩ := post_cases s e
  · rw [hasRoom_iff] at room
    omega
  · rw [he]
    rfl

/-- Settles O18: the running part, a dropped event, the reset and the starts. -/
theorem attentionFollowsTheEvents : Obligations.AttentionFollowsTheEvents :=
  ⟨fun _ => attnLow_running, fun e _ => attnLow_post_dropped e, fun _ => attnLow_resetHeld,
    fun _ _ low powered => ⟨_, congrArg Host.Outcome.next (if_pos ⟨low, powered⟩), attnLow_resetHeld rfl⟩,
    fun _ => ⟨_, rfl, attnLow_of_no_events rfl⟩,
    fun _ held rest => ⟨_, congrArg Host.Outcome.next (if_pos ⟨held, rest⟩), attnLow_of_no_events rfl⟩⟩

end Sys2Proof.Machine
end

section
/-! One step of the part where a command waits; `step_empty` has the empty queue. -/

namespace Sys2Proof.Machine

variable {s : State}

/-- The front command runs in the state from whose queue it has been taken. -/
theorem step_front {c : Instr} {rest : List Instr} (h : s.pending = c :: rest) :
    step s = exec c { s with pending := rest } := by
  simp only [step, h]

/-- Settles O1: on a queue with a command in front, `step` takes its first branch. -/
theorem stepRunsTheFrontCommand : Obligations.StepRunsTheFrontCommand :=
  fun _ _ _ => step_front

end Sys2Proof.Machine
end
